-- ==== Sys2Proof/Word.lean ====
section
/-! DEFINITION. The two word types of CORE: bytes and 16-bit words (`00_scope.md` R4). -/

namespace Sys2Proof

/-- An 8-bit register, memory byte, opcode byte, displacement or immediate (R4). -/
abbrev Byte := BitVec 8

/-- A 16-bit address, `pc`, `sp` or register pair (R4). -/
abbrev Word := BitVec 16

end Sys2Proof
end

