-- ==== Sys2Proof/Config.lean ====
section
/-! DEFINITION. The parameters of the spec (`00_scope.md` R6 to R9): what an implementation fixes.
`IMPL` and `ROT_FLAGS` are the fields of `Config`, which State carries unchanged, so that a claim
over every state is a claim for every value of them; `RESET_REGS` is `ResetRegs`. -/

namespace Sys2Proof

/-- The two opcode tables (`30_encoding.md` R60). -/
inductive Table where
  | base
  | cb
deriving DecidableEq, Repr

/-- One entry of one of the two tables, named by table and byte value (`00_scope.md` section 7). -/
structure Slot where
  table : Table
  byte : Byte
deriving DecidableEq, Repr

/-- The parameter `ROT_FLAGS` (R7): which flags the four rotate-left instructions write. -/
inductive RotFlags where
  /-- carry only, as the source's table says; the spec's default -/
  | gb
  /-- all four flags, as the LR35902 is generally known to -/
  | lr35902
deriving DecidableEq, Repr

/-- The implementation parameters a running machine reads. -/
structure Config where
  /-- The parameter `IMPL` (R6): the slots whose operation reference is null.
  `IMPL_ALL` is the empty list. -/
  nullSlots : List Slot
  rotFlags : RotFlags
deriving DecidableEq, Repr

/-- The spec's defaults: `IMPL_ALL` (R6) and `ROT_FLAGS = gb` (R7). -/
def Config.standard : Config := { nullSlots := [], rotFlags := .gb }

/-- The parameter `FRAME_INSTRUCTIONS` (R8): "The source gives no value." A free value: nothing can
prove what it is (log entry 3). -/
opaque Config.frameInstructions : Nat

/-- The parameter `RESET_REGS` (R9): the values after reset of `A, B, C, D, E, H, L`, of the high
nibble of `F`, and of `sp`. -/
structure ResetRegs where
  a : Byte
  b : Byte
  c : Byte
  d : Byte
  e : Byte
  h : Byte
  l : Byte
  fHigh : BitVec 4
  sp : Word
deriving DecidableEq, Repr

/-- The one value `State.reset` uses. DESIGN CHOICE (unsafe, log entry 1): the spec names no value;
statements about reset quantify over every `ResetRegs`. -/
def ResetRegs.zero : ResetRegs :=
  { a := 0, b := 0, c := 0, d := 0, e := 0, h := 0, l := 0, fHigh := 0, sp := 0 }

end Sys2Proof
end

