-- ==== Sys2Proof/Syntax.lean ====
section
/-! DEFINITION. The instructions: one constructor of `Instr` per mnemonic of `spec/opcode_table.json`
(the eleven undefined bytes share the mnemonic ILLEGAL and the constructor `illegal`), the operand
kinds of the index tables R66 to R71, and `Form`, the instruction read through those tables. -/

namespace Sys2Proof

/-- The seven general registers (`10_state.md` R10), the register entries of `r[i]` (R66). -/
inductive Reg8 where
  | b | c | d | e | h | l | a
deriving DecidableEq, Repr

/-- An entry of the 8-bit operand table `r[i]` (R66): a register, or the data-memory byte at `HL`. -/
inductive Loc8 where
  | reg (r : Reg8)
  | atHL
deriving DecidableEq, Repr

/-- The three ways an ALU operation selects its second operand (R150). -/
inductive Src8 where
  | loc (l : Loc8)
  | imm (n : Byte)
deriving DecidableEq, Repr

/-- The 16-bit operand table `rp[p]` (R67). -/
inductive RP where
  | bc | de | hl | sp
deriving DecidableEq, Repr

/-- The 16-bit operand table `rp2[p]` (R68), used by push and pop. -/
inductive RP2 where
  | bc | de | hl | af
deriving DecidableEq, Repr

/-- The pairs that address an accumulator load or store (R117 to R120). -/
inductive PtrPair where
  | bc | de
deriving DecidableEq, Repr

/-- The step applied to `HL` after a load or store (R130 to R133). -/
inductive HLStep where
  | inc | dec
deriving DecidableEq, Repr

/-- The condition table `cc[k]` (R69). -/
inductive Cond where
  | nz | z | nc | c
deriving DecidableEq, Repr

/-- The ALU operation table `alu[y]` (R70). -/
inductive AluOp where
  | add | adc | sub | sbc | and | xor | or | cp
deriving DecidableEq, Repr

/-- The rotate and shift table `rot[y]` (R71). -/
inductive RotOp where
  | rlc | rrc | rl | rr | sla | sra | swap | srl
deriving DecidableEq, Repr

/-- The four one-byte rotates of `A` (R183, R184, R194, R195). -/
inductive RotAOp where
  | rlca | rrca | rla | rra
deriving DecidableEq, Repr

/-- The instructions. A constructor is named after its mnemonic; `atX` in a name is the table's `(X)`,
the data-memory byte at `X`. `n` is an 8-bit immediate, `d` the raw displacement byte, `nn` a 16-bit
immediate (R62). The constructors with operands stand first (Lean's runtime numbers them below 245);
otherwise the order is the table's. `illegal op` is the undefined byte `op` (R80); `prefixCB` is the escape slot (R245). -/
inductive Instr where
  | ld_BC_nn (nn : Word)
  | ld_B_n (n : Byte)
  | ld_atNN_SP (nn : Word)
  | ld_C_n (n : Byte)
  | stop (n : Byte)
  | ld_DE_nn (nn : Word)
  | ld_D_n (n : Byte)
  | jr_d (d : Byte)
  | ld_E_n (n : Byte)
  | jr_NZ_d (d : Byte)
  | ld_HL_nn (nn : Word)
  | ld_H_n (n : Byte)
  | jr_Z_d (d : Byte)
  | ld_L_n (n : Byte)
  | jr_NC_d (d : Byte)
  | ld_SP_nn (nn : Word)
  | ld_atHL_n (n : Byte)
  | jr_C_d (d : Byte)
  | ld_A_n (n : Byte)
  | jp_NZ_nn (nn : Word)
  | jp_nn (nn : Word)
  | call_NZ_nn (nn : Word)
  | add_A_n (n : Byte)
  | jp_Z_nn (nn : Word)
  | call_Z_nn (nn : Word)
  | call_nn (nn : Word)
  | adc_A_n (n : Byte)
  | jp_NC_nn (nn : Word)
  | illegal (op : Byte)
  | call_NC_nn (nn : Word)
  | sub_n (n : Byte)
  | jp_C_nn (nn : Word)
  | call_C_nn (nn : Word)
  | sbc_A_n (n : Byte)
  | ldh_atN_A (n : Byte)
  | and_n (n : Byte)
  | add_SP_d (d : Byte)
  | ld_atNN_A (nn : Word)
  | xor_n (n : Byte)
  | ldh_A_atN (n : Byte)
  | or_n (n : Byte)
  | ld_HL_SPplusD (d : Byte)
  | ld_A_atNN (nn : Word)
  | cp_n (n : Byte)
  | nop
  | ld_atBC_A
  | inc_BC
  | inc_B
  | dec_B
  | rlca
  | add_HL_BC
  | ld_A_atBC
  | dec_BC
  | inc_C
  | dec_C
  | rrca
  | ld_atDE_A
  | inc_DE
  | inc_D
  | dec_D
  | rla
  | add_HL_DE
  | ld_A_atDE
  | dec_DE
  | inc_E
  | dec_E
  | rra
  | ld_atHLinc_A
  | inc_HL
  | inc_H
  | dec_H
  | daa
  | add_HL_HL
  | ld_A_atHLinc
  | dec_HL
  | inc_L
  | dec_L
  | cpl
  | ld_atHLdec_A
  | inc_SP
  | inc_atHL
  | dec_atHL
  | scf
  | add_HL_SP
  | ld_A_atHLdec
  | dec_SP
  | inc_A
  | dec_A
  | ccf
  | ld_B_B
  | ld_B_C
  | ld_B_D
  | ld_B_E
  | ld_B_H
  | ld_B_L
  | ld_B_atHL
  | ld_B_A
  | ld_C_B
  | ld_C_C
  | ld_C_D
  | ld_C_E
  | ld_C_H
  | ld_C_L
  | ld_C_atHL
  | ld_C_A
  | ld_D_B
  | ld_D_C
  | ld_D_D
  | ld_D_E
  | ld_D_H
  | ld_D_L
  | ld_D_atHL
  | ld_D_A
  | ld_E_B
  | ld_E_C
  | ld_E_D
  | ld_E_E
  | ld_E_H
  | ld_E_L
  | ld_E_atHL
  | ld_E_A
  | ld_H_B
  | ld_H_C
  | ld_H_D
  | ld_H_E
  | ld_H_H
  | ld_H_L
  | ld_H_atHL
  | ld_H_A
  | ld_L_B
  | ld_L_C
  | ld_L_D
  | ld_L_E
  | ld_L_H
  | ld_L_L
  | ld_L_atHL
  | ld_L_A
  | ld_atHL_B
  | ld_atHL_C
  | ld_atHL_D
  | ld_atHL_E
  | ld_atHL_H
  | ld_atHL_L
  | halt
  | ld_atHL_A
  | ld_A_B
  | ld_A_C
  | ld_A_D
  | ld_A_E
  | ld_A_H
  | ld_A_L
  | ld_A_atHL
  | ld_A_A
  | add_A_B
  | add_A_C
  | add_A_D
  | add_A_E
  | add_A_H
  | add_A_L
  | add_A_atHL
  | add_A_A
  | adc_A_B
  | adc_A_C
  | adc_A_D
  | adc_A_E
  | adc_A_H
  | adc_A_L
  | adc_A_atHL
  | adc_A_A
  | sub_B
  | sub_C
  | sub_D
  | sub_E
  | sub_H
  | sub_L
  | sub_atHL
  | sub_A
  | sbc_A_B
  | sbc_A_C
  | sbc_A_D
  | sbc_A_E
  | sbc_A_H
  | sbc_A_L
  | sbc_A_atHL
  | sbc_A_A
  | and_B
  | and_C
  | and_D
  | and_E
  | and_H
  | and_L
  | and_atHL
  | and_A
  | xor_B
  | xor_C
  | xor_D
  | xor_E
  | xor_H
  | xor_L
  | xor_atHL
  | xor_A
  | or_B
  | or_C
  | or_D
  | or_E
  | or_H
  | or_L
  | or_atHL
  | or_A
  | cp_B
  | cp_C
  | cp_D
  | cp_E
  | cp_H
  | cp_L
  | cp_atHL
  | cp_A
  | ret_NZ
  | pop_BC
  | push_BC
  | rst_00h
  | ret_Z
  | ret
  | prefixCB
  | rst_08h
  | ret_NC
  | pop_DE
  | push_DE
  | rst_10h
  | ret_C
  | reti
  | rst_18h
  | pop_HL
  | ld_atC_A
  | push_HL
  | rst_20h
  | jp_HL
  | rst_28h
  | pop_AF
  | ld_A_atC
  | di
  | push_AF
  | rst_30h
  | ld_SP_HL
  | ei
  | rst_38h
  | rlc_B
  | rlc_C
  | rlc_D
  | rlc_E
  | rlc_H
  | rlc_L
  | rlc_atHL
  | rlc_A
  | rrc_B
  | rrc_C
  | rrc_D
  | rrc_E
  | rrc_H
  | rrc_L
  | rrc_atHL
  | rrc_A
  | rl_B
  | rl_C
  | rl_D
  | rl_E
  | rl_H
  | rl_L
  | rl_atHL
  | rl_A
  | rr_B
  | rr_C
  | rr_D
  | rr_E
  | rr_H
  | rr_L
  | rr_atHL
  | rr_A
  | sla_B
  | sla_C
  | sla_D
  | sla_E
  | sla_H
  | sla_L
  | sla_atHL
  | sla_A
  | sra_B
  | sra_C
  | sra_D
  | sra_E
  | sra_H
  | sra_L
  | sra_atHL
  | sra_A
  | swap_B
  | swap_C
  | swap_D
  | swap_E
  | swap_H
  | swap_L
  | swap_atHL
  | swap_A
  | srl_B
  | srl_C
  | srl_D
  | srl_E
  | srl_H
  | srl_L
  | srl_atHL
  | srl_A
  | bit_0_B
  | bit_0_C
  | bit_0_D
  | bit_0_E
  | bit_0_H
  | bit_0_L
  | bit_0_atHL
  | bit_0_A
  | bit_1_B
  | bit_1_C
  | bit_1_D
  | bit_1_E
  | bit_1_H
  | bit_1_L
  | bit_1_atHL
  | bit_1_A
  | bit_2_B
  | bit_2_C
  | bit_2_D
  | bit_2_E
  | bit_2_H
  | bit_2_L
  | bit_2_atHL
  | bit_2_A
  | bit_3_B
  | bit_3_C
  | bit_3_D
  | bit_3_E
  | bit_3_H
  | bit_3_L
  | bit_3_atHL
  | bit_3_A
  | bit_4_B
  | bit_4_C
  | bit_4_D
  | bit_4_E
  | bit_4_H
  | bit_4_L
  | bit_4_atHL
  | bit_4_A
  | bit_5_B
  | bit_5_C
  | bit_5_D
  | bit_5_E
  | bit_5_H
  | bit_5_L
  | bit_5_atHL
  | bit_5_A
  | bit_6_B
  | bit_6_C
  | bit_6_D
  | bit_6_E
  | bit_6_H
  | bit_6_L
  | bit_6_atHL
  | bit_6_A
  | bit_7_B
  | bit_7_C
  | bit_7_D
  | bit_7_E
  | bit_7_H
  | bit_7_L
  | bit_7_atHL
  | bit_7_A
  | res_0_B
  | res_0_C
  | res_0_D
  | res_0_E
  | res_0_H
  | res_0_L
  | res_0_atHL
  | res_0_A
  | res_1_B
  | res_1_C
  | res_1_D
  | res_1_E
  | res_1_H
  | res_1_L
  | res_1_atHL
  | res_1_A
  | res_2_B
  | res_2_C
  | res_2_D
  | res_2_E
  | res_2_H
  | res_2_L
  | res_2_atHL
  | res_2_A
  | res_3_B
  | res_3_C
  | res_3_D
  | res_3_E
  | res_3_H
  | res_3_L
  | res_3_atHL
  | res_3_A
  | res_4_B
  | res_4_C
  | res_4_D
  | res_4_E
  | res_4_H
  | res_4_L
  | res_4_atHL
  | res_4_A
  | res_5_B
  | res_5_C
  | res_5_D
  | res_5_E
  | res_5_H
  | res_5_L
  | res_5_atHL
  | res_5_A
  | res_6_B
  | res_6_C
  | res_6_D
  | res_6_E
  | res_6_H
  | res_6_L
  | res_6_atHL
  | res_6_A
  | res_7_B
  | res_7_C
  | res_7_D
  | res_7_E
  | res_7_H
  | res_7_L
  | res_7_atHL
  | res_7_A
  | set_0_B
  | set_0_C
  | set_0_D
  | set_0_E
  | set_0_H
  | set_0_L
  | set_0_atHL
  | set_0_A
  | set_1_B
  | set_1_C
  | set_1_D
  | set_1_E
  | set_1_H
  | set_1_L
  | set_1_atHL
  | set_1_A
  | set_2_B
  | set_2_C
  | set_2_D
  | set_2_E
  | set_2_H
  | set_2_L
  | set_2_atHL
  | set_2_A
  | set_3_B
  | set_3_C
  | set_3_D
  | set_3_E
  | set_3_H
  | set_3_L
  | set_3_atHL
  | set_3_A
  | set_4_B
  | set_4_C
  | set_4_D
  | set_4_E
  | set_4_H
  | set_4_L
  | set_4_atHL
  | set_4_A
  | set_5_B
  | set_5_C
  | set_5_D
  | set_5_E
  | set_5_H
  | set_5_L
  | set_5_atHL
  | set_5_A
  | set_6_B
  | set_6_C
  | set_6_D
  | set_6_E
  | set_6_H
  | set_6_L
  | set_6_atHL
  | set_6_A
  | set_7_B
  | set_7_C
  | set_7_D
  | set_7_E
  | set_7_H
  | set_7_L
  | set_7_atHL
  | set_7_A
deriving DecidableEq, Repr

/-- The operation a slot names, with its operands read through the tables R66 to R71; one constructor
per rule, or per pair of rules that differ only in an operand. -/
inductive Form where
  /-- R102 -/
  | nop
  /-- R111 -/
  | ldReg (dst src : Reg8)
  /-- R112 -/
  | ldFromHL (dst : Reg8)
  /-- R113 -/
  | ldToHL (src : Reg8)
  /-- R114 -/
  | ldImm (dst : Reg8) (n : Byte)
  /-- R115 -/
  | ldHLImm (n : Byte)
  /-- R116 -/
  | ldPairImm (p : RP) (nn : Word)
  /-- R117, R118 -/
  | stAPtr (q : PtrPair)
  /-- R119, R120 -/
  | ldAPtr (q : PtrPair)
  /-- R121 -/
  | stAAbs (nn : Word)
  /-- R122 -/
  | ldAAbs (nn : Word)
  /-- R124 -/
  | stAHigh (n : Byte)
  /-- R125 -/
  | ldAHigh (n : Byte)
  /-- R126 -/
  | stAHighC
  /-- R127 -/
  | ldAHighC
  /-- R128 -/
  | ldSPHL
  /-- R129 -/
  | stSPAbs (nn : Word)
  /-- R130, R132 -/
  | stAStep (k : HLStep)
  /-- R131, R133 -/
  | ldAStep (k : HLStep)
  /-- R140, R141 -/
  | inc8 (o : Loc8)
  /-- R142, R143 -/
  | dec8 (o : Loc8)
  /-- R144 -/
  | inc16 (p : RP)
  /-- R145 -/
  | dec16 (p : RP)
  /-- R151, R154 to R160 -/
  | alu (op : AluOp) (v : Src8)
  /-- R161 -/
  | daa
  /-- R162 -/
  | cpl
  /-- R163 -/
  | scf
  /-- R164 -/
  | ccf
  /-- R181, R182, R186 to R191 -/
  | rot (op : RotOp) (o : Loc8)
  /-- R183, R184, R194, R195 -/
  | rotA (op : RotAOp)
  /-- R185 -/
  | bit (y : Fin 8) (o : Loc8)
  /-- R192 -/
  | res (y : Fin 8) (o : Loc8)
  /-- R193 -/
  | set (y : Fin 8) (o : Loc8)
  /-- R200 -/
  | jr (d : Byte)
  /-- R201 -/
  | jrIf (k : Cond) (d : Byte)
  /-- R202 -/
  | jp (nn : Word)
  /-- R203 -/
  | jpIf (k : Cond) (nn : Word)
  /-- R204 -/
  | jpHL
  /-- R210 -/
  | push (q : RP2)
  /-- R211, R212 -/
  | pop (q : RP2)
  /-- R213 -/
  | call (nn : Word)
  /-- R215 -/
  | callIf (k : Cond) (nn : Word)
  /-- R216 -/
  | ret
  /-- R217 -/
  | retIf (k : Cond)
  /-- R220 -/
  | reti
  /-- R221 -/
  | rst (y : Fin 8)
  /-- R230 -/
  | addHL (p : RP)
  /-- R231 -/
  | addSP (d : Byte)
  /-- R232 -/
  | ldHLSP (d : Byte)
  /-- R240 -/
  | halt
  /-- R241; the immediate byte is read and ignored -/
  | stop (n : Byte)
  /-- R242 -/
  | di
  /-- R243 -/
  | ei
  /-- R244 -/
  | undefined (op : Byte)
  /-- R245 -/
  | escape
deriving DecidableEq, Repr

end Sys2Proof
end

