-- ==== Sys2Proof/WellFormed.lean ====
section
/-! DEFINITION. Well-formed instructions: the terms of `Instr` that are one whole instruction of the
opcode map. Every operand value of every other constructor is an encoding (R81). -/

namespace Sys2Proof

/-- The eleven bytes of table `base` that spell no instruction (R80). -/
def undefinedBytes : List Byte :=
  [0xD3, 0xDB, 0xDD, 0xE3, 0xE4, 0xEB, 0xEC, 0xED, 0xF4, 0xFC, 0xFD]

/-- `illegal op` stands for an undefined byte only (R80); the escape slot is never dispatched and is no
instruction of its own (R245). -/
def Instr.wellFormed : Instr → Bool
  | .illegal op => undefinedBytes.contains op
  | .prefixCB => false
  | _ => true

end Sys2Proof
end

