-- ==== Sys2Proof/Decode.lean ====
section
/-! DEFINITION. The decoder (`30_encoding.md`): the bit-field decoder, the two opcode tables of
descriptors, decoding of a byte sequence, total and rejecting by name; then the encoder, written from
the bit patterns of R72 to R76. -/

namespace Sys2Proof

/-! ### Bytes and words -/

/-- `{hi, lo}`, `merge(hi, lo) = (hi << 8) | lo` (R12, R13, R46). -/
def mkWord (hi lo : Byte) : Word := hi.setWidth 16 <<< 8 ||| lo.setWidth 16

/-- `v[15:8]`, the high half of `split(v)` (R13). -/
def hiByte (v : Word) : Byte := (v >>> 8).setWidth 8

/-- `v[7:0]`, the low half of `split(v)` (R13). -/
def loByte (v : Word) : Byte := v.setWidth 8

/-- `zext_16` (`00_scope.md` section 6). -/
def zext16 (b : Byte) : Word := b.setWidth 16

/-- `sext_16` (`00_scope.md` section 6). -/
def sext16 (b : Byte) : Word := b.signExtend 16

/-! ### The bit-field decoder (R63) -/

/-- The fields x, y, z, p, q of an opcode byte. -/
structure Fields where
  x : BitVec 2
  y : BitVec 3
  z : BitVec 3
  p : BitVec 2
  q : BitVec 1
deriving DecidableEq, Repr

/-- R63. -/
def fields (value : Byte) : Fields where
  x := value.extractLsb' 6 2
  y := value.extractLsb' 3 3
  z := value.extractLsb' 0 3
  p := value.extractLsb' 4 2
  q := value.extractLsb' 3 1

/-! ### The index tables (R66 to R71), as field values -/

/-- The index of a register in `r[i]` (R66). -/
def Reg8.code : Reg8 → BitVec 3
  | .b => 0 | .c => 1 | .d => 2 | .e => 3 | .h => 4 | .l => 5 | .a => 7

/-- The index of an operand in `r[i]` (R66). -/
def Loc8.code : Loc8 → BitVec 3
  | .reg r => r.code
  | .atHL => 6

/-- `r[i]` as an operand (R66). -/
def Loc8.ofCode (i : BitVec 3) : Loc8 :=
  match i.toNat with
  | 0 => .reg .b
  | 1 => .reg .c
  | 2 => .reg .d
  | 3 => .reg .e
  | 4 => .reg .h
  | 5 => .reg .l
  | 6 => .atHL
  | _ => .reg .a

/-- R67. -/
def RP.code : RP → BitVec 2
  | .bc => 0 | .de => 1 | .hl => 2 | .sp => 3

/-- R68. -/
def RP2.code : RP2 → BitVec 2
  | .bc => 0 | .de => 1 | .hl => 2 | .af => 3

/-- The pair number p of `LD (BC),A` and its kin (R72). -/
def PtrPair.code : PtrPair → BitVec 2
  | .bc => 0 | .de => 1

/-- The pair number p of `LD (HL+),A` and its kin (R72). -/
def HLStep.code : HLStep → BitVec 2
  | .inc => 2 | .dec => 3

/-- R69. -/
def Cond.code : Cond → BitVec 2
  | .nz => 0 | .z => 1 | .nc => 2 | .c => 3

/-- R70. -/
def AluOp.code : AluOp → BitVec 3
  | .add => 0 | .adc => 1 | .sub => 2 | .sbc => 3 | .and => 4 | .xor => 5 | .or => 6 | .cp => 7

/-- R71. -/
def RotOp.code : RotOp → BitVec 3
  | .rlc => 0 | .rrc => 1 | .rl => 2 | .rr => 3 | .sla => 4 | .sra => 5 | .swap => 6 | .srl => 7

/-- `rot[y]` (R71). -/
def RotOp.ofCode (y : BitVec 3) : RotOp :=
  match y.toNat with
  | 0 => .rlc
  | 1 => .rrc
  | 2 => .rl
  | 3 => .rr
  | 4 => .sla
  | 5 => .sra
  | 6 => .swap
  | _ => .srl

/-- The y of the one-byte rotates of `A` (R72). -/
def RotAOp.code : RotAOp → BitVec 3
  | .rlca => 0 | .rrca => 1 | .rla => 2 | .rra => 3

/-! ### Descriptors and the opcode tables (R60, R61) -/

/-- The spec's tier of a slot's semantics (`00_scope.md` section 3). -/
inductive Tier where
  | gb | gk | undefined | escape
deriving DecidableEq, Repr

/-- A slot's operation as a function of the operand bytes it reads: it is handed the raw displacement
byte and the merged immediate (R96, R79). -/
inductive Operation where
  | plain (i : Instr)
  | imm8 (mk : Byte → Instr)
  | disp (mk : Byte → Instr)
  | imm16 (mk : Word → Instr)
  /-- one of the eleven undefined bytes: no operation, but the fault `UnrecognizedOpcode` (R61, R80) -/
  | undefined
  /-- the slot `base[0xCB]`, taken by the prefix check before any lookup (R245) -/
  | escape

/-- A descriptor (R61): mnemonic tag, displacement flag, immediate size, operation; and the tier. -/
structure Descriptor where
  mnemonic : String
  hasDisp : Bool
  immSize : Nat
  tier : Tier
  operation : Operation

/-- The instruction a slot's operation makes of its opcode byte and operands. -/
def Operation.instr : Operation → (op d : Byte) → (imm : Word) → Instr
  | .plain i, _, _, _ => i
  | .imm8 mk, _, _, imm => mk (loByte imm)
  | .disp mk, _, d, _ => mk d
  | .imm16 mk, _, _, imm => mk imm
  | .undefined, op, _, _ => .illegal op
  | .escape, _, _, _ => .prefixCB

/-- Whether an operation reads a displacement. -/
def Operation.readsDisp : Operation → Bool
  | .disp _ => true
  | _ => false

/-- How many immediate bytes an operation reads. -/
def Operation.readsImm : Operation → Nat
  | .imm8 _ => 1
  | .imm16 _ => 2
  | _ => 0

/-- R82: the flags of a descriptor are consistent with what its operation reads. -/
def Descriptor.consistent (d : Descriptor) : Bool :=
  d.hasDisp == d.operation.readsDisp && d.immSize == d.operation.readsImm

/-- Whether `IMPL` applies to the slot: it holds an instruction (R244, R245). -/
def Descriptor.isInstruction (d : Descriptor) : Bool :=
  match d.operation with
  | .undefined => false
  | .escape => false
  | _ => true

/-- The length of an instruction after its escape byte, if any (R62). -/
def Descriptor.len (d : Descriptor) : Nat := 1 + (if d.hasDisp then 1 else 0) + d.immSize

/-- One row of a table. -/
def row (mnemonic : String) (tier : Tier) (operation : Operation) (hasDisp : Bool := false)
    (immSize : Nat := 0) : Descriptor :=
  { mnemonic, hasDisp, immSize, tier, operation }

/-- Slots 0x00 to 0x0F. -/
def baseRow0 : List Descriptor := [
  row "NOP" .gb (.plain .nop),
  row "LD BC,nn" .gb (.imm16 .ld_BC_nn) (immSize := 2),
  row "LD (BC),A" .gb (.plain .ld_atBC_A),
  row "INC BC" .gb (.plain .inc_BC),
  row "INC B" .gb (.plain .inc_B),
  row "DEC B" .gb (.plain .dec_B),
  row "LD B,n" .gb (.imm8 .ld_B_n) (immSize := 1),
  row "RLCA" .gb (.plain .rlca),
  row "LD (nn),SP" .gb (.imm16 .ld_atNN_SP) (immSize := 2),
  row "ADD HL,BC" .gk (.plain .add_HL_BC),
  row "LD A,(BC)" .gb (.plain .ld_A_atBC),
  row "DEC BC" .gb (.plain .dec_BC),
  row "INC C" .gb (.plain .inc_C),
  row "DEC C" .gb (.plain .dec_C),
  row "LD C,n" .gb (.imm8 .ld_C_n) (immSize := 1),
  row "RRCA" .gk (.plain .rrca)]

/-- Slots 0x10 to 0x1F. -/
def baseRow1 : List Descriptor := [
  row "STOP" .gk (.imm8 .stop) (immSize := 1),
  row "LD DE,nn" .gb (.imm16 .ld_DE_nn) (immSize := 2),
  row "LD (DE),A" .gb (.plain .ld_atDE_A),
  row "INC DE" .gb (.plain .inc_DE),
  row "INC D" .gb (.plain .inc_D),
  row "DEC D" .gb (.plain .dec_D),
  row "LD D,n" .gb (.imm8 .ld_D_n) (immSize := 1),
  row "RLA" .gb (.plain .rla),
  row "JR d" .gb (.disp .jr_d) (hasDisp := true),
  row "ADD HL,DE" .gk (.plain .add_HL_DE),
  row "LD A,(DE)" .gb (.plain .ld_A_atDE),
  row "DEC DE" .gb (.plain .dec_DE),
  row "INC E" .gb (.plain .inc_E),
  row "DEC E" .gb (.plain .dec_E),
  row "LD E,n" .gb (.imm8 .ld_E_n) (immSize := 1),
  row "RRA" .gk (.plain .rra)]

/-- Slots 0x20 to 0x2F. -/
def baseRow2 : List Descriptor := [
  row "JR NZ,d" .gb (.disp .jr_NZ_d) (hasDisp := true),
  row "LD HL,nn" .gb (.imm16 .ld_HL_nn) (immSize := 2),
  row "LD (HL+),A" .gb (.plain .ld_atHLinc_A),
  row "INC HL" .gb (.plain .inc_HL),
  row "INC H" .gb (.plain .inc_H),
  row "DEC H" .gb (.plain .dec_H),
  row "LD H,n" .gb (.imm8 .ld_H_n) (immSize := 1),
  row "DAA" .gk (.plain .daa),
  row "JR Z,d" .gb (.disp .jr_Z_d) (hasDisp := true),
  row "ADD HL,HL" .gk (.plain .add_HL_HL),
  row "LD A,(HL+)" .gb (.plain .ld_A_atHLinc),
  row "DEC HL" .gb (.plain .dec_HL),
  row "INC L" .gb (.plain .inc_L),
  row "DEC L" .gb (.plain .dec_L),
  row "LD L,n" .gb (.imm8 .ld_L_n) (immSize := 1),
  row "CPL" .gk (.plain .cpl)]

/-- Slots 0x30 to 0x3F. -/
def baseRow3 : List Descriptor := [
  row "JR NC,d" .gb (.disp .jr_NC_d) (hasDisp := true),
  row "LD SP,nn" .gb (.imm16 .ld_SP_nn) (immSize := 2),
  row "LD (HL-),A" .gb (.plain .ld_atHLdec_A),
  row "INC SP" .gb (.plain .inc_SP),
  row "INC (HL)" .gb (.plain .inc_atHL),
  row "DEC (HL)" .gb (.plain .dec_atHL),
  row "LD (HL),n" .gb (.imm8 .ld_atHL_n) (immSize := 1),
  row "SCF" .gk (.plain .scf),
  row "JR C,d" .gb (.disp .jr_C_d) (hasDisp := true),
  row "ADD HL,SP" .gk (.plain .add_HL_SP),
  row "LD A,(HL-)" .gb (.plain .ld_A_atHLdec),
  row "DEC SP" .gb (.plain .dec_SP),
  row "INC A" .gb (.plain .inc_A),
  row "DEC A" .gb (.plain .dec_A),
  row "LD A,n" .gb (.imm8 .ld_A_n) (immSize := 1),
  row "CCF" .gk (.plain .ccf)]

/-- Slots 0x40 to 0x4F. -/
def baseRow4 : List Descriptor := [
  row "LD B,B" .gb (.plain .ld_B_B),
  row "LD B,C" .gb (.plain .ld_B_C),
  row "LD B,D" .gb (.plain .ld_B_D),
  row "LD B,E" .gb (.plain .ld_B_E),
  row "LD B,H" .gb (.plain .ld_B_H),
  row "LD B,L" .gb (.plain .ld_B_L),
  row "LD B,(HL)" .gb (.plain .ld_B_atHL),
  row "LD B,A" .gb (.plain .ld_B_A),
  row "LD C,B" .gb (.plain .ld_C_B),
  row "LD C,C" .gb (.plain .ld_C_C),
  row "LD C,D" .gb (.plain .ld_C_D),
  row "LD C,E" .gb (.plain .ld_C_E),
  row "LD C,H" .gb (.plain .ld_C_H),
  row "LD C,L" .gb (.plain .ld_C_L),
  row "LD C,(HL)" .gb (.plain .ld_C_atHL),
  row "LD C,A" .gb (.plain .ld_C_A)]

/-- Slots 0x50 to 0x5F. -/
def baseRow5 : List Descriptor := [
  row "LD D,B" .gb (.plain .ld_D_B),
  row "LD D,C" .gb (.plain .ld_D_C),
  row "LD D,D" .gb (.plain .ld_D_D),
  row "LD D,E" .gb (.plain .ld_D_E),
  row "LD D,H" .gb (.plain .ld_D_H),
  row "LD D,L" .gb (.plain .ld_D_L),
  row "LD D,(HL)" .gb (.plain .ld_D_atHL),
  row "LD D,A" .gb (.plain .ld_D_A),
  row "LD E,B" .gb (.plain .ld_E_B),
  row "LD E,C" .gb (.plain .ld_E_C),
  row "LD E,D" .gb (.plain .ld_E_D),
  row "LD E,E" .gb (.plain .ld_E_E),
  row "LD E,H" .gb (.plain .ld_E_H),
  row "LD E,L" .gb (.plain .ld_E_L),
  row "LD E,(HL)" .gb (.plain .ld_E_atHL),
  row "LD E,A" .gb (.plain .ld_E_A)]

/-- Slots 0x60 to 0x6F. -/
def baseRow6 : List Descriptor := [
  row "LD H,B" .gb (.plain .ld_H_B),
  row "LD H,C" .gb (.plain .ld_H_C),
  row "LD H,D" .gb (.plain .ld_H_D),
  row "LD H,E" .gb (.plain .ld_H_E),
  row "LD H,H" .gb (.plain .ld_H_H),
  row "LD H,L" .gb (.plain .ld_H_L),
  row "LD H,(HL)" .gb (.plain .ld_H_atHL),
  row "LD H,A" .gb (.plain .ld_H_A),
  row "LD L,B" .gb (.plain .ld_L_B),
  row "LD L,C" .gb (.plain .ld_L_C),
  row "LD L,D" .gb (.plain .ld_L_D),
  row "LD L,E" .gb (.plain .ld_L_E),
  row "LD L,H" .gb (.plain .ld_L_H),
  row "LD L,L" .gb (.plain .ld_L_L),
  row "LD L,(HL)" .gb (.plain .ld_L_atHL),
  row "LD L,A" .gb (.plain .ld_L_A)]

/-- Slots 0x70 to 0x7F. -/
def baseRow7 : List Descriptor := [
  row "LD (HL),B" .gb (.plain .ld_atHL_B),
  row "LD (HL),C" .gb (.plain .ld_atHL_C),
  row "LD (HL),D" .gb (.plain .ld_atHL_D),
  row "LD (HL),E" .gb (.plain .ld_atHL_E),
  row "LD (HL),H" .gb (.plain .ld_atHL_H),
  row "LD (HL),L" .gb (.plain .ld_atHL_L),
  row "HALT" .gk (.plain .halt),
  row "LD (HL),A" .gb (.plain .ld_atHL_A),
  row "LD A,B" .gb (.plain .ld_A_B),
  row "LD A,C" .gb (.plain .ld_A_C),
  row "LD A,D" .gb (.plain .ld_A_D),
  row "LD A,E" .gb (.plain .ld_A_E),
  row "LD A,H" .gb (.plain .ld_A_H),
  row "LD A,L" .gb (.plain .ld_A_L),
  row "LD A,(HL)" .gb (.plain .ld_A_atHL),
  row "LD A,A" .gb (.plain .ld_A_A)]

/-- Slots 0x80 to 0x8F. -/
def baseRow8 : List Descriptor := [
  row "ADD A,B" .gk (.plain .add_A_B),
  row "ADD A,C" .gk (.plain .add_A_C),
  row "ADD A,D" .gk (.plain .add_A_D),
  row "ADD A,E" .gk (.plain .add_A_E),
  row "ADD A,H" .gk (.plain .add_A_H),
  row "ADD A,L" .gk (.plain .add_A_L),
  row "ADD A,(HL)" .gk (.plain .add_A_atHL),
  row "ADD A,A" .gk (.plain .add_A_A),
  row "ADC A,B" .gk (.plain .adc_A_B),
  row "ADC A,C" .gk (.plain .adc_A_C),
  row "ADC A,D" .gk (.plain .adc_A_D),
  row "ADC A,E" .gk (.plain .adc_A_E),
  row "ADC A,H" .gk (.plain .adc_A_H),
  row "ADC A,L" .gk (.plain .adc_A_L),
  row "ADC A,(HL)" .gk (.plain .adc_A_atHL),
  row "ADC A,A" .gk (.plain .adc_A_A)]

/-- Slots 0x90 to 0x9F. -/
def baseRow9 : List Descriptor := [
  row "SUB B" .gk (.plain .sub_B),
  row "SUB C" .gk (.plain .sub_C),
  row "SUB D" .gk (.plain .sub_D),
  row "SUB E" .gk (.plain .sub_E),
  row "SUB H" .gk (.plain .sub_H),
  row "SUB L" .gk (.plain .sub_L),
  row "SUB (HL)" .gk (.plain .sub_atHL),
  row "SUB A" .gk (.plain .sub_A),
  row "SBC A,B" .gk (.plain .sbc_A_B),
  row "SBC A,C" .gk (.plain .sbc_A_C),
  row "SBC A,D" .gk (.plain .sbc_A_D),
  row "SBC A,E" .gk (.plain .sbc_A_E),
  row "SBC A,H" .gk (.plain .sbc_A_H),
  row "SBC A,L" .gk (.plain .sbc_A_L),
  row "SBC A,(HL)" .gk (.plain .sbc_A_atHL),
  row "SBC A,A" .gk (.plain .sbc_A_A)]

/-- Slots 0xA0 to 0xAF. -/
def baseRowA : List Descriptor := [
  row "AND B" .gk (.plain .and_B),
  row "AND C" .gk (.plain .and_C),
  row "AND D" .gk (.plain .and_D),
  row "AND E" .gk (.plain .and_E),
  row "AND H" .gk (.plain .and_H),
  row "AND L" .gk (.plain .and_L),
  row "AND (HL)" .gk (.plain .and_atHL),
  row "AND A" .gk (.plain .and_A),
  row "XOR B" .gb (.plain .xor_B),
  row "XOR C" .gb (.plain .xor_C),
  row "XOR D" .gb (.plain .xor_D),
  row "XOR E" .gb (.plain .xor_E),
  row "XOR H" .gb (.plain .xor_H),
  row "XOR L" .gb (.plain .xor_L),
  row "XOR (HL)" .gb (.plain .xor_atHL),
  row "XOR A" .gb (.plain .xor_A)]

/-- Slots 0xB0 to 0xBF. -/
def baseRowB : List Descriptor := [
  row "OR B" .gk (.plain .or_B),
  row "OR C" .gk (.plain .or_C),
  row "OR D" .gk (.plain .or_D),
  row "OR E" .gk (.plain .or_E),
  row "OR H" .gk (.plain .or_H),
  row "OR L" .gk (.plain .or_L),
  row "OR (HL)" .gk (.plain .or_atHL),
  row "OR A" .gk (.plain .or_A),
  row "CP B" .gk (.plain .cp_B),
  row "CP C" .gk (.plain .cp_C),
  row "CP D" .gk (.plain .cp_D),
  row "CP E" .gk (.plain .cp_E),
  row "CP H" .gk (.plain .cp_H),
  row "CP L" .gk (.plain .cp_L),
  row "CP (HL)" .gk (.plain .cp_atHL),
  row "CP A" .gk (.plain .cp_A)]

/-- Slots 0xC0 to 0xCF. -/
def baseRowC : List Descriptor := [
  row "RET NZ" .gk (.plain .ret_NZ),
  row "POP BC" .gb (.plain .pop_BC),
  row "JP NZ,nn" .gk (.imm16 .jp_NZ_nn) (immSize := 2),
  row "JP nn" .gk (.imm16 .jp_nn) (immSize := 2),
  row "CALL NZ,nn" .gk (.imm16 .call_NZ_nn) (immSize := 2),
  row "PUSH BC" .gb (.plain .push_BC),
  row "ADD A,n" .gk (.imm8 .add_A_n) (immSize := 1),
  row "RST 00h" .gk (.plain .rst_00h),
  row "RET Z" .gk (.plain .ret_Z),
  row "RET" .gk (.plain .ret),
  row "JP Z,nn" .gk (.imm16 .jp_Z_nn) (immSize := 2),
  row "PREFIX CB" .escape .escape,
  row "CALL Z,nn" .gk (.imm16 .call_Z_nn) (immSize := 2),
  row "CALL nn" .gb (.imm16 .call_nn) (immSize := 2),
  row "ADC A,n" .gk (.imm8 .adc_A_n) (immSize := 1),
  row "RST 08h" .gk (.plain .rst_08h)]

/-- Slots 0xD0 to 0xDF. -/
def baseRowD : List Descriptor := [
  row "RET NC" .gk (.plain .ret_NC),
  row "POP DE" .gb (.plain .pop_DE),
  row "JP NC,nn" .gk (.imm16 .jp_NC_nn) (immSize := 2),
  row "ILLEGAL" .undefined .undefined,
  row "CALL NC,nn" .gk (.imm16 .call_NC_nn) (immSize := 2),
  row "PUSH DE" .gb (.plain .push_DE),
  row "SUB n" .gk (.imm8 .sub_n) (immSize := 1),
  row "RST 10h" .gk (.plain .rst_10h),
  row "RET C" .gk (.plain .ret_C),
  row "RETI" .gk (.plain .reti),
  row "JP C,nn" .gk (.imm16 .jp_C_nn) (immSize := 2),
  row "ILLEGAL" .undefined .undefined,
  row "CALL C,nn" .gk (.imm16 .call_C_nn) (immSize := 2),
  row "ILLEGAL" .undefined .undefined,
  row "SBC A,n" .gk (.imm8 .sbc_A_n) (immSize := 1),
  row "RST 18h" .gk (.plain .rst_18h)]

/-- Slots 0xE0 to 0xEF. -/
def baseRowE : List Descriptor := [
  row "LDH (n),A" .gb (.imm8 .ldh_atN_A) (immSize := 1),
  row "POP HL" .gb (.plain .pop_HL),
  row "LD (C),A" .gb (.plain .ld_atC_A),
  row "ILLEGAL" .undefined .undefined,
  row "ILLEGAL" .undefined .undefined,
  row "PUSH HL" .gb (.plain .push_HL),
  row "AND n" .gk (.imm8 .and_n) (immSize := 1),
  row "RST 20h" .gk (.plain .rst_20h),
  row "ADD SP,d" .gk (.disp .add_SP_d) (hasDisp := true),
  row "JP HL" .gk (.plain .jp_HL),
  row "LD (nn),A" .gb (.imm16 .ld_atNN_A) (immSize := 2),
  row "ILLEGAL" .undefined .undefined,
  row "ILLEGAL" .undefined .undefined,
  row "ILLEGAL" .undefined .undefined,
  row "XOR n" .gb (.imm8 .xor_n) (immSize := 1),
  row "RST 28h" .gk (.plain .rst_28h)]

/-- Slots 0xF0 to 0xFF. -/
def baseRowF : List Descriptor := [
  row "LDH A,(n)" .gb (.imm8 .ldh_A_atN) (immSize := 1),
  row "POP AF" .gb (.plain .pop_AF),
  row "LD A,(C)" .gb (.plain .ld_A_atC),
  row "DI" .gk (.plain .di),
  row "ILLEGAL" .undefined .undefined,
  row "PUSH AF" .gb (.plain .push_AF),
  row "OR n" .gk (.imm8 .or_n) (immSize := 1),
  row "RST 30h" .gk (.plain .rst_30h),
  row "LD HL,SP+d" .gk (.disp .ld_HL_SPplusD) (hasDisp := true),
  row "LD SP,HL" .gb (.plain .ld_SP_HL),
  row "LD A,(nn)" .gb (.imm16 .ld_A_atNN) (immSize := 2),
  row "EI" .gk (.plain .ei),
  row "ILLEGAL" .undefined .undefined,
  row "ILLEGAL" .undefined .undefined,
  row "CP n" .gk (.imm8 .cp_n) (immSize := 1),
  row "RST 38h" .gk (.plain .rst_38h)]

/-- Slots 0xCB 0x00 to 0xCB 0x0F. -/
def cbRow0 : List Descriptor := [
  row "RLC B" .gb (.plain .rlc_B),
  row "RLC C" .gb (.plain .rlc_C),
  row "RLC D" .gb (.plain .rlc_D),
  row "RLC E" .gb (.plain .rlc_E),
  row "RLC H" .gb (.plain .rlc_H),
  row "RLC L" .gb (.plain .rlc_L),
  row "RLC (HL)" .gb (.plain .rlc_atHL),
  row "RLC A" .gb (.plain .rlc_A),
  row "RRC B" .gk (.plain .rrc_B),
  row "RRC C" .gk (.plain .rrc_C),
  row "RRC D" .gk (.plain .rrc_D),
  row "RRC E" .gk (.plain .rrc_E),
  row "RRC H" .gk (.plain .rrc_H),
  row "RRC L" .gk (.plain .rrc_L),
  row "RRC (HL)" .gk (.plain .rrc_atHL),
  row "RRC A" .gk (.plain .rrc_A)]

/-- Slots 0xCB 0x10 to 0xCB 0x1F. -/
def cbRow1 : List Descriptor := [
  row "RL B" .gb (.plain .rl_B),
  row "RL C" .gb (.plain .rl_C),
  row "RL D" .gb (.plain .rl_D),
  row "RL E" .gb (.plain .rl_E),
  row "RL H" .gb (.plain .rl_H),
  row "RL L" .gb (.plain .rl_L),
  row "RL (HL)" .gb (.plain .rl_atHL),
  row "RL A" .gb (.plain .rl_A),
  row "RR B" .gk (.plain .rr_B),
  row "RR C" .gk (.plain .rr_C),
  row "RR D" .gk (.plain .rr_D),
  row "RR E" .gk (.plain .rr_E),
  row "RR H" .gk (.plain .rr_H),
  row "RR L" .gk (.plain .rr_L),
  row "RR (HL)" .gk (.plain .rr_atHL),
  row "RR A" .gk (.plain .rr_A)]

/-- Slots 0xCB 0x20 to 0xCB 0x2F. -/
def cbRow2 : List Descriptor := [
  row "SLA B" .gk (.plain .sla_B),
  row "SLA C" .gk (.plain .sla_C),
  row "SLA D" .gk (.plain .sla_D),
  row "SLA E" .gk (.plain .sla_E),
  row "SLA H" .gk (.plain .sla_H),
  row "SLA L" .gk (.plain .sla_L),
  row "SLA (HL)" .gk (.plain .sla_atHL),
  row "SLA A" .gk (.plain .sla_A),
  row "SRA B" .gk (.plain .sra_B),
  row "SRA C" .gk (.plain .sra_C),
  row "SRA D" .gk (.plain .sra_D),
  row "SRA E" .gk (.plain .sra_E),
  row "SRA H" .gk (.plain .sra_H),
  row "SRA L" .gk (.plain .sra_L),
  row "SRA (HL)" .gk (.plain .sra_atHL),
  row "SRA A" .gk (.plain .sra_A)]

/-- Slots 0xCB 0x30 to 0xCB 0x3F. -/
def cbRow3 : List Descriptor := [
  row "SWAP B" .gk (.plain .swap_B),
  row "SWAP C" .gk (.plain .swap_C),
  row "SWAP D" .gk (.plain .swap_D),
  row "SWAP E" .gk (.plain .swap_E),
  row "SWAP H" .gk (.plain .swap_H),
  row "SWAP L" .gk (.plain .swap_L),
  row "SWAP (HL)" .gk (.plain .swap_atHL),
  row "SWAP A" .gk (.plain .swap_A),
  row "SRL B" .gk (.plain .srl_B),
  row "SRL C" .gk (.plain .srl_C),
  row "SRL D" .gk (.plain .srl_D),
  row "SRL E" .gk (.plain .srl_E),
  row "SRL H" .gk (.plain .srl_H),
  row "SRL L" .gk (.plain .srl_L),
  row "SRL (HL)" .gk (.plain .srl_atHL),
  row "SRL A" .gk (.plain .srl_A)]

/-- Slots 0xCB 0x40 to 0xCB 0x4F. -/
def cbRow4 : List Descriptor := [
  row "BIT 0,B" .gb (.plain .bit_0_B),
  row "BIT 0,C" .gb (.plain .bit_0_C),
  row "BIT 0,D" .gb (.plain .bit_0_D),
  row "BIT 0,E" .gb (.plain .bit_0_E),
  row "BIT 0,H" .gb (.plain .bit_0_H),
  row "BIT 0,L" .gb (.plain .bit_0_L),
  row "BIT 0,(HL)" .gb (.plain .bit_0_atHL),
  row "BIT 0,A" .gb (.plain .bit_0_A),
  row "BIT 1,B" .gb (.plain .bit_1_B),
  row "BIT 1,C" .gb (.plain .bit_1_C),
  row "BIT 1,D" .gb (.plain .bit_1_D),
  row "BIT 1,E" .gb (.plain .bit_1_E),
  row "BIT 1,H" .gb (.plain .bit_1_H),
  row "BIT 1,L" .gb (.plain .bit_1_L),
  row "BIT 1,(HL)" .gb (.plain .bit_1_atHL),
  row "BIT 1,A" .gb (.plain .bit_1_A)]

/-- Slots 0xCB 0x50 to 0xCB 0x5F. -/
def cbRow5 : List Descriptor := [
  row "BIT 2,B" .gb (.plain .bit_2_B),
  row "BIT 2,C" .gb (.plain .bit_2_C),
  row "BIT 2,D" .gb (.plain .bit_2_D),
  row "BIT 2,E" .gb (.plain .bit_2_E),
  row "BIT 2,H" .gb (.plain .bit_2_H),
  row "BIT 2,L" .gb (.plain .bit_2_L),
  row "BIT 2,(HL)" .gb (.plain .bit_2_atHL),
  row "BIT 2,A" .gb (.plain .bit_2_A),
  row "BIT 3,B" .gb (.plain .bit_3_B),
  row "BIT 3,C" .gb (.plain .bit_3_C),
  row "BIT 3,D" .gb (.plain .bit_3_D),
  row "BIT 3,E" .gb (.plain .bit_3_E),
  row "BIT 3,H" .gb (.plain .bit_3_H),
  row "BIT 3,L" .gb (.plain .bit_3_L),
  row "BIT 3,(HL)" .gb (.plain .bit_3_atHL),
  row "BIT 3,A" .gb (.plain .bit_3_A)]

/-- Slots 0xCB 0x60 to 0xCB 0x6F. -/
def cbRow6 : List Descriptor := [
  row "BIT 4,B" .gb (.plain .bit_4_B),
  row "BIT 4,C" .gb (.plain .bit_4_C),
  row "BIT 4,D" .gb (.plain .bit_4_D),
  row "BIT 4,E" .gb (.plain .bit_4_E),
  row "BIT 4,H" .gb (.plain .bit_4_H),
  row "BIT 4,L" .gb (.plain .bit_4_L),
  row "BIT 4,(HL)" .gb (.plain .bit_4_atHL),
  row "BIT 4,A" .gb (.plain .bit_4_A),
  row "BIT 5,B" .gb (.plain .bit_5_B),
  row "BIT 5,C" .gb (.plain .bit_5_C),
  row "BIT 5,D" .gb (.plain .bit_5_D),
  row "BIT 5,E" .gb (.plain .bit_5_E),
  row "BIT 5,H" .gb (.plain .bit_5_H),
  row "BIT 5,L" .gb (.plain .bit_5_L),
  row "BIT 5,(HL)" .gb (.plain .bit_5_atHL),
  row "BIT 5,A" .gb (.plain .bit_5_A)]

/-- Slots 0xCB 0x70 to 0xCB 0x7F. -/
def cbRow7 : List Descriptor := [
  row "BIT 6,B" .gb (.plain .bit_6_B),
  row "BIT 6,C" .gb (.plain .bit_6_C),
  row "BIT 6,D" .gb (.plain .bit_6_D),
  row "BIT 6,E" .gb (.plain .bit_6_E),
  row "BIT 6,H" .gb (.plain .bit_6_H),
  row "BIT 6,L" .gb (.plain .bit_6_L),
  row "BIT 6,(HL)" .gb (.plain .bit_6_atHL),
  row "BIT 6,A" .gb (.plain .bit_6_A),
  row "BIT 7,B" .gb (.plain .bit_7_B),
  row "BIT 7,C" .gb (.plain .bit_7_C),
  row "BIT 7,D" .gb (.plain .bit_7_D),
  row "BIT 7,E" .gb (.plain .bit_7_E),
  row "BIT 7,H" .gb (.plain .bit_7_H),
  row "BIT 7,L" .gb (.plain .bit_7_L),
  row "BIT 7,(HL)" .gb (.plain .bit_7_atHL),
  row "BIT 7,A" .gb (.plain .bit_7_A)]

/-- Slots 0xCB 0x80 to 0xCB 0x8F. -/
def cbRow8 : List Descriptor := [
  row "RES 0,B" .gk (.plain .res_0_B),
  row "RES 0,C" .gk (.plain .res_0_C),
  row "RES 0,D" .gk (.plain .res_0_D),
  row "RES 0,E" .gk (.plain .res_0_E),
  row "RES 0,H" .gk (.plain .res_0_H),
  row "RES 0,L" .gk (.plain .res_0_L),
  row "RES 0,(HL)" .gk (.plain .res_0_atHL),
  row "RES 0,A" .gk (.plain .res_0_A),
  row "RES 1,B" .gk (.plain .res_1_B),
  row "RES 1,C" .gk (.plain .res_1_C),
  row "RES 1,D" .gk (.plain .res_1_D),
  row "RES 1,E" .gk (.plain .res_1_E),
  row "RES 1,H" .gk (.plain .res_1_H),
  row "RES 1,L" .gk (.plain .res_1_L),
  row "RES 1,(HL)" .gk (.plain .res_1_atHL),
  row "RES 1,A" .gk (.plain .res_1_A)]

/-- Slots 0xCB 0x90 to 0xCB 0x9F. -/
def cbRow9 : List Descriptor := [
  row "RES 2,B" .gk (.plain .res_2_B),
  row "RES 2,C" .gk (.plain .res_2_C),
  row "RES 2,D" .gk (.plain .res_2_D),
  row "RES 2,E" .gk (.plain .res_2_E),
  row "RES 2,H" .gk (.plain .res_2_H),
  row "RES 2,L" .gk (.plain .res_2_L),
  row "RES 2,(HL)" .gk (.plain .res_2_atHL),
  row "RES 2,A" .gk (.plain .res_2_A),
  row "RES 3,B" .gk (.plain .res_3_B),
  row "RES 3,C" .gk (.plain .res_3_C),
  row "RES 3,D" .gk (.plain .res_3_D),
  row "RES 3,E" .gk (.plain .res_3_E),
  row "RES 3,H" .gk (.plain .res_3_H),
  row "RES 3,L" .gk (.plain .res_3_L),
  row "RES 3,(HL)" .gk (.plain .res_3_atHL),
  row "RES 3,A" .gk (.plain .res_3_A)]

/-- Slots 0xCB 0xA0 to 0xCB 0xAF. -/
def cbRowA : List Descriptor := [
  row "RES 4,B" .gk (.plain .res_4_B),
  row "RES 4,C" .gk (.plain .res_4_C),
  row "RES 4,D" .gk (.plain .res_4_D),
  row "RES 4,E" .gk (.plain .res_4_E),
  row "RES 4,H" .gk (.plain .res_4_H),
  row "RES 4,L" .gk (.plain .res_4_L),
  row "RES 4,(HL)" .gk (.plain .res_4_atHL),
  row "RES 4,A" .gk (.plain .res_4_A),
  row "RES 5,B" .gk (.plain .res_5_B),
  row "RES 5,C" .gk (.plain .res_5_C),
  row "RES 5,D" .gk (.plain .res_5_D),
  row "RES 5,E" .gk (.plain .res_5_E),
  row "RES 5,H" .gk (.plain .res_5_H),
  row "RES 5,L" .gk (.plain .res_5_L),
  row "RES 5,(HL)" .gk (.plain .res_5_atHL),
  row "RES 5,A" .gk (.plain .res_5_A)]

/-- Slots 0xCB 0xB0 to 0xCB 0xBF. -/
def cbRowB : List Descriptor := [
  row "RES 6,B" .gk (.plain .res_6_B),
  row "RES 6,C" .gk (.plain .res_6_C),
  row "RES 6,D" .gk (.plain .res_6_D),
  row "RES 6,E" .gk (.plain .res_6_E),
  row "RES 6,H" .gk (.plain .res_6_H),
  row "RES 6,L" .gk (.plain .res_6_L),
  row "RES 6,(HL)" .gk (.plain .res_6_atHL),
  row "RES 6,A" .gk (.plain .res_6_A),
  row "RES 7,B" .gk (.plain .res_7_B),
  row "RES 7,C" .gk (.plain .res_7_C),
  row "RES 7,D" .gk (.plain .res_7_D),
  row "RES 7,E" .gk (.plain .res_7_E),
  row "RES 7,H" .gk (.plain .res_7_H),
  row "RES 7,L" .gk (.plain .res_7_L),
  row "RES 7,(HL)" .gk (.plain .res_7_atHL),
  row "RES 7,A" .gk (.plain .res_7_A)]

/-- Slots 0xCB 0xC0 to 0xCB 0xCF. -/
def cbRowC : List Descriptor := [
  row "SET 0,B" .gk (.plain .set_0_B),
  row "SET 0,C" .gk (.plain .set_0_C),
  row "SET 0,D" .gk (.plain .set_0_D),
  row "SET 0,E" .gk (.plain .set_0_E),
  row "SET 0,H" .gk (.plain .set_0_H),
  row "SET 0,L" .gk (.plain .set_0_L),
  row "SET 0,(HL)" .gk (.plain .set_0_atHL),
  row "SET 0,A" .gk (.plain .set_0_A),
  row "SET 1,B" .gk (.plain .set_1_B),
  row "SET 1,C" .gk (.plain .set_1_C),
  row "SET 1,D" .gk (.plain .set_1_D),
  row "SET 1,E" .gk (.plain .set_1_E),
  row "SET 1,H" .gk (.plain .set_1_H),
  row "SET 1,L" .gk (.plain .set_1_L),
  row "SET 1,(HL)" .gk (.plain .set_1_atHL),
  row "SET 1,A" .gk (.plain .set_1_A)]

/-- Slots 0xCB 0xD0 to 0xCB 0xDF. -/
def cbRowD : List Descriptor := [
  row "SET 2,B" .gk (.plain .set_2_B),
  row "SET 2,C" .gk (.plain .set_2_C),
  row "SET 2,D" .gk (.plain .set_2_D),
  row "SET 2,E" .gk (.plain .set_2_E),
  row "SET 2,H" .gk (.plain .set_2_H),
  row "SET 2,L" .gk (.plain .set_2_L),
  row "SET 2,(HL)" .gk (.plain .set_2_atHL),
  row "SET 2,A" .gk (.plain .set_2_A),
  row "SET 3,B" .gk (.plain .set_3_B),
  row "SET 3,C" .gk (.plain .set_3_C),
  row "SET 3,D" .gk (.plain .set_3_D),
  row "SET 3,E" .gk (.plain .set_3_E),
  row "SET 3,H" .gk (.plain .set_3_H),
  row "SET 3,L" .gk (.plain .set_3_L),
  row "SET 3,(HL)" .gk (.plain .set_3_atHL),
  row "SET 3,A" .gk (.plain .set_3_A)]

/-- Slots 0xCB 0xE0 to 0xCB 0xEF. -/
def cbRowE : List Descriptor := [
  row "SET 4,B" .gk (.plain .set_4_B),
  row "SET 4,C" .gk (.plain .set_4_C),
  row "SET 4,D" .gk (.plain .set_4_D),
  row "SET 4,E" .gk (.plain .set_4_E),
  row "SET 4,H" .gk (.plain .set_4_H),
  row "SET 4,L" .gk (.plain .set_4_L),
  row "SET 4,(HL)" .gk (.plain .set_4_atHL),
  row "SET 4,A" .gk (.plain .set_4_A),
  row "SET 5,B" .gk (.plain .set_5_B),
  row "SET 5,C" .gk (.plain .set_5_C),
  row "SET 5,D" .gk (.plain .set_5_D),
  row "SET 5,E" .gk (.plain .set_5_E),
  row "SET 5,H" .gk (.plain .set_5_H),
  row "SET 5,L" .gk (.plain .set_5_L),
  row "SET 5,(HL)" .gk (.plain .set_5_atHL),
  row "SET 5,A" .gk (.plain .set_5_A)]

/-- Slots 0xCB 0xF0 to 0xCB 0xFF. -/
def cbRowF : List Descriptor := [
  row "SET 6,B" .gk (.plain .set_6_B),
  row "SET 6,C" .gk (.plain .set_6_C),
  row "SET 6,D" .gk (.plain .set_6_D),
  row "SET 6,E" .gk (.plain .set_6_E),
  row "SET 6,H" .gk (.plain .set_6_H),
  row "SET 6,L" .gk (.plain .set_6_L),
  row "SET 6,(HL)" .gk (.plain .set_6_atHL),
  row "SET 6,A" .gk (.plain .set_6_A),
  row "SET 7,B" .gk (.plain .set_7_B),
  row "SET 7,C" .gk (.plain .set_7_C),
  row "SET 7,D" .gk (.plain .set_7_D),
  row "SET 7,E" .gk (.plain .set_7_E),
  row "SET 7,H" .gk (.plain .set_7_H),
  row "SET 7,L" .gk (.plain .set_7_L),
  row "SET 7,(HL)" .gk (.plain .set_7_atHL),
  row "SET 7,A" .gk (.plain .set_7_A)]

/-- The table `base`, one descriptor per byte value (R60). -/
def baseTable : List (List Descriptor) :=
  [baseRow0, baseRow1, baseRow2, baseRow3, baseRow4, baseRow5, baseRow6, baseRow7,
   baseRow8, baseRow9, baseRowA, baseRowB, baseRowC, baseRowD, baseRowE, baseRowF]

/-- The table `cb`, one descriptor per byte value (R60). -/
def cbTable : List (List Descriptor) :=
  [cbRow0, cbRow1, cbRow2, cbRow3, cbRow4, cbRow5, cbRow6, cbRow7,
   cbRow8, cbRow9, cbRowA, cbRowB, cbRowC, cbRowD, cbRowE, cbRowF]

/-- What stands in no slot; lookup never answers it, since both tables are full (R60). -/
def noDescriptor : Descriptor := row "ILLEGAL" .undefined .undefined

/-- The rows of a table, sixteen slots each. -/
def Table.rows : Table → List (List Descriptor)
  | .base => baseTable
  | .cb => cbTable

/-- Lookup by the raw byte value (R60): row `byte[7:4]`, column `byte[3:0]`. -/
def lookup (s : Slot) : Descriptor :=
  ((s.table.rows.getD (s.byte.toNat / 16) []).getD (s.byte.toNat % 16) noDescriptor)

/-- The length in bytes of a slot's instruction (R62). -/
def slotLen (s : Slot) : Nat := (if s.table = .cb then 1 else 0) + (lookup s).len

/-- Every slot of both tables, in byte order. -/
def allSlots : List Slot :=
  (List.range 256).map (fun k => { table := .base, byte := BitVec.ofNat 8 k }) ++
    (List.range 256).map (fun k => { table := .cb, byte := BitVec.ofNat 8 k })

/-- `IMPL_ALL` (R6): no instruction slot is null. -/
def implAll : List Slot := []

/-- `IMPL_GB` (R6): null exactly at the slots whose rule is Tier GK. -/
def implGB : List Slot := allSlots.filter (fun s => (lookup s).tier == .gk)

/-- Whether a slot's operation reference is null under a configuration (R6, R97). `IMPL` does not
apply to the undefined bytes and the escape slot (R244, R245). -/
def Config.isNull (cfg : Config) (s : Slot) : Bool :=
  cfg.nullSlots.contains s && (lookup s).isInstruction

/-! ### Decoding (R90 to R95) -/

/-- The escape byte (R65). -/
def escapeByte : Byte := 0xCB

/-- What decoding a byte sequence answers. -/
inductive DecodeResult where
  /-- the slot, the instruction, and the bytes after it -/
  | ok (slot : Slot) (i : Instr) (rest : List Byte)
  /-- refused: the sequence ends before byte number `k` (from 0), which the instruction needs -/
  | truncated (k : Nat)
deriving DecidableEq, Repr

/-- Steps 3 to 5 of the loop: lookup, displacement, immediate (R93 to R95). `start` is the number of bytes
before `bs`: one, or two after the escape byte. -/
def decodeOperands (slot : Slot) (start : Nat) (bs : List Byte) : DecodeResult :=
  let desc := lookup slot
  let make (d : Byte) (imm : Word) (rest : List Byte) : DecodeResult :=
    .ok slot (desc.operation.instr slot.byte d imm) rest
  let immediate (d : Byte) (k : Nat) (bs : List Byte) : DecodeResult :=
    match desc.immSize, bs with
    | 0, bs => make d 0 bs
    | 1, n :: rest => make d (zext16 n) rest
    | 1, [] => .truncated k
    | _, lo :: hi :: rest => make d (mkWord hi lo) rest
    | _, [_] => .truncated (k + 1)
    | _, [] => .truncated k
  if desc.hasDisp then
    match bs with
    | d :: rest => immediate d (start + 1) rest
    | [] => .truncated start
  else immediate 0 start bs

/-- The decoder: the prefix check (R91, R92), then the operands. Total on any byte sequence. -/
def decode : List Byte → DecodeResult
  | [] => .truncated 0
  | b0 :: bs =>
    if b0 = escapeByte then
      match bs with
      | [] => .truncated 1
      | op :: rest => decodeOperands { table := .cb, byte := op } 2 rest
    else decodeOperands { table := .base, byte := b0 } 1 bs

/-- The longest instruction, in bytes (R62). -/
def maxLen : Nat := 3

/-- The bytes, in address order, of an instruction that `spec/opcode_table.json` numbers as `w` in
`nbits` bits; the bits above `nbits` are 0. Byte k is bits 8k+7 to 8k, but for a row of table `cb`,
whose 16-bit number the table writes with the escape byte, the first in address order, in bits 15 to 8
(log entry 8). -/
def tableBytes (nbits w : Nat) : List Byte :=
  let v := w % 2 ^ nbits
  let byte (k : Nat) : Byte := BitVec.ofNat 8 (v / 2 ^ (8 * k))
  if nbits = 16 && byte 1 == escapeByte then [byte 1, byte 0, 0]
  else [byte 0, byte 1, byte 2]

/-- The instruction the decoder reads from a row of `spec/opcode_table.json`. -/
def decodeTableWord (nbits w : Nat) : Option Instr :=
  match decode (tableBytes nbits w) with
  | .ok _ i _ => some i
  | .truncated _ => none

/-! ### Operand view and encoder -/

/-- Each instruction read through the index tables of its slot (R66 to R71). -/
def Instr.form : Instr → Form
  | .ld_BC_nn nn => .ldPairImm .bc nn
  | .ld_B_n n => .ldImm .b n
  | .ld_atNN_SP nn => .stSPAbs nn
  | .ld_C_n n => .ldImm .c n
  | .stop n => .stop n
  | .ld_DE_nn nn => .ldPairImm .de nn
  | .ld_D_n n => .ldImm .d n
  | .jr_d d => .jr d
  | .ld_E_n n => .ldImm .e n
  | .jr_NZ_d d => .jrIf .nz d
  | .ld_HL_nn nn => .ldPairImm .hl nn
  | .ld_H_n n => .ldImm .h n
  | .jr_Z_d d => .jrIf .z d
  | .ld_L_n n => .ldImm .l n
  | .jr_NC_d d => .jrIf .nc d
  | .ld_SP_nn nn => .ldPairImm .sp nn
  | .ld_atHL_n n => .ldHLImm n
  | .jr_C_d d => .jrIf .c d
  | .ld_A_n n => .ldImm .a n
  | .jp_NZ_nn nn => .jpIf .nz nn
  | .jp_nn nn => .jp nn
  | .call_NZ_nn nn => .callIf .nz nn
  | .add_A_n n => .alu .add (.imm n)
  | .jp_Z_nn nn => .jpIf .z nn
  | .call_Z_nn nn => .callIf .z nn
  | .call_nn nn => .call nn
  | .adc_A_n n => .alu .adc (.imm n)
  | .jp_NC_nn nn => .jpIf .nc nn
  | .illegal op => .undefined op
  | .call_NC_nn nn => .callIf .nc nn
  | .sub_n n => .alu .sub (.imm n)
  | .jp_C_nn nn => .jpIf .c nn
  | .call_C_nn nn => .callIf .c nn
  | .sbc_A_n n => .alu .sbc (.imm n)
  | .ldh_atN_A n => .stAHigh n
  | .and_n n => .alu .and (.imm n)
  | .add_SP_d d => .addSP d
  | .ld_atNN_A nn => .stAAbs nn
  | .xor_n n => .alu .xor (.imm n)
  | .ldh_A_atN n => .ldAHigh n
  | .or_n n => .alu .or (.imm n)
  | .ld_HL_SPplusD d => .ldHLSP d
  | .ld_A_atNN nn => .ldAAbs nn
  | .cp_n n => .alu .cp (.imm n)
  | .nop => .nop
  | .ld_atBC_A => .stAPtr .bc
  | .inc_BC => .inc16 .bc
  | .inc_B => .inc8 (.reg .b)
  | .dec_B => .dec8 (.reg .b)
  | .rlca => .rotA .rlca
  | .add_HL_BC => .addHL .bc
  | .ld_A_atBC => .ldAPtr .bc
  | .dec_BC => .dec16 .bc
  | .inc_C => .inc8 (.reg .c)
  | .dec_C => .dec8 (.reg .c)
  | .rrca => .rotA .rrca
  | .ld_atDE_A => .stAPtr .de
  | .inc_DE => .inc16 .de
  | .inc_D => .inc8 (.reg .d)
  | .dec_D => .dec8 (.reg .d)
  | .rla => .rotA .rla
  | .add_HL_DE => .addHL .de
  | .ld_A_atDE => .ldAPtr .de
  | .dec_DE => .dec16 .de
  | .inc_E => .inc8 (.reg .e)
  | .dec_E => .dec8 (.reg .e)
  | .rra => .rotA .rra
  | .ld_atHLinc_A => .stAStep .inc
  | .inc_HL => .inc16 .hl
  | .inc_H => .inc8 (.reg .h)
  | .dec_H => .dec8 (.reg .h)
  | .daa => .daa
  | .add_HL_HL => .addHL .hl
  | .ld_A_atHLinc => .ldAStep .inc
  | .dec_HL => .dec16 .hl
  | .inc_L => .inc8 (.reg .l)
  | .dec_L => .dec8 (.reg .l)
  | .cpl => .cpl
  | .ld_atHLdec_A => .stAStep .dec
  | .inc_SP => .inc16 .sp
  | .inc_atHL => .inc8 .atHL
  | .dec_atHL => .dec8 .atHL
  | .scf => .scf
  | .add_HL_SP => .addHL .sp
  | .ld_A_atHLdec => .ldAStep .dec
  | .dec_SP => .dec16 .sp
  | .inc_A => .inc8 (.reg .a)
  | .dec_A => .dec8 (.reg .a)
  | .ccf => .ccf
  | .ld_B_B => .ldReg .b .b
  | .ld_B_C => .ldReg .b .c
  | .ld_B_D => .ldReg .b .d
  | .ld_B_E => .ldReg .b .e
  | .ld_B_H => .ldReg .b .h
  | .ld_B_L => .ldReg .b .l
  | .ld_B_atHL => .ldFromHL .b
  | .ld_B_A => .ldReg .b .a
  | .ld_C_B => .ldReg .c .b
  | .ld_C_C => .ldReg .c .c
  | .ld_C_D => .ldReg .c .d
  | .ld_C_E => .ldReg .c .e
  | .ld_C_H => .ldReg .c .h
  | .ld_C_L => .ldReg .c .l
  | .ld_C_atHL => .ldFromHL .c
  | .ld_C_A => .ldReg .c .a
  | .ld_D_B => .ldReg .d .b
  | .ld_D_C => .ldReg .d .c
  | .ld_D_D => .ldReg .d .d
  | .ld_D_E => .ldReg .d .e
  | .ld_D_H => .ldReg .d .h
  | .ld_D_L => .ldReg .d .l
  | .ld_D_atHL => .ldFromHL .d
  | .ld_D_A => .ldReg .d .a
  | .ld_E_B => .ldReg .e .b
  | .ld_E_C => .ldReg .e .c
  | .ld_E_D => .ldReg .e .d
  | .ld_E_E => .ldReg .e .e
  | .ld_E_H => .ldReg .e .h
  | .ld_E_L => .ldReg .e .l
  | .ld_E_atHL => .ldFromHL .e
  | .ld_E_A => .ldReg .e .a
  | .ld_H_B => .ldReg .h .b
  | .ld_H_C => .ldReg .h .c
  | .ld_H_D => .ldReg .h .d
  | .ld_H_E => .ldReg .h .e
  | .ld_H_H => .ldReg .h .h
  | .ld_H_L => .ldReg .h .l
  | .ld_H_atHL => .ldFromHL .h
  | .ld_H_A => .ldReg .h .a
  | .ld_L_B => .ldReg .l .b
  | .ld_L_C => .ldReg .l .c
  | .ld_L_D => .ldReg .l .d
  | .ld_L_E => .ldReg .l .e
  | .ld_L_H => .ldReg .l .h
  | .ld_L_L => .ldReg .l .l
  | .ld_L_atHL => .ldFromHL .l
  | .ld_L_A => .ldReg .l .a
  | .ld_atHL_B => .ldToHL .b
  | .ld_atHL_C => .ldToHL .c
  | .ld_atHL_D => .ldToHL .d
  | .ld_atHL_E => .ldToHL .e
  | .ld_atHL_H => .ldToHL .h
  | .ld_atHL_L => .ldToHL .l
  | .halt => .halt
  | .ld_atHL_A => .ldToHL .a
  | .ld_A_B => .ldReg .a .b
  | .ld_A_C => .ldReg .a .c
  | .ld_A_D => .ldReg .a .d
  | .ld_A_E => .ldReg .a .e
  | .ld_A_H => .ldReg .a .h
  | .ld_A_L => .ldReg .a .l
  | .ld_A_atHL => .ldFromHL .a
  | .ld_A_A => .ldReg .a .a
  | .add_A_B => .alu .add (.loc (.reg .b))
  | .add_A_C => .alu .add (.loc (.reg .c))
  | .add_A_D => .alu .add (.loc (.reg .d))
  | .add_A_E => .alu .add (.loc (.reg .e))
  | .add_A_H => .alu .add (.loc (.reg .h))
  | .add_A_L => .alu .add (.loc (.reg .l))
  | .add_A_atHL => .alu .add (.loc .atHL)
  | .add_A_A => .alu .add (.loc (.reg .a))
  | .adc_A_B => .alu .adc (.loc (.reg .b))
  | .adc_A_C => .alu .adc (.loc (.reg .c))
  | .adc_A_D => .alu .adc (.loc (.reg .d))
  | .adc_A_E => .alu .adc (.loc (.reg .e))
  | .adc_A_H => .alu .adc (.loc (.reg .h))
  | .adc_A_L => .alu .adc (.loc (.reg .l))
  | .adc_A_atHL => .alu .adc (.loc .atHL)
  | .adc_A_A => .alu .adc (.loc (.reg .a))
  | .sub_B => .alu .sub (.loc (.reg .b))
  | .sub_C => .alu .sub (.loc (.reg .c))
  | .sub_D => .alu .sub (.loc (.reg .d))
  | .sub_E => .alu .sub (.loc (.reg .e))
  | .sub_H => .alu .sub (.loc (.reg .h))
  | .sub_L => .alu .sub (.loc (.reg .l))
  | .sub_atHL => .alu .sub (.loc .atHL)
  | .sub_A => .alu .sub (.loc (.reg .a))
  | .sbc_A_B => .alu .sbc (.loc (.reg .b))
  | .sbc_A_C => .alu .sbc (.loc (.reg .c))
  | .sbc_A_D => .alu .sbc (.loc (.reg .d))
  | .sbc_A_E => .alu .sbc (.loc (.reg .e))
  | .sbc_A_H => .alu .sbc (.loc (.reg .h))
  | .sbc_A_L => .alu .sbc (.loc (.reg .l))
  | .sbc_A_atHL => .alu .sbc (.loc .atHL)
  | .sbc_A_A => .alu .sbc (.loc (.reg .a))
  | .and_B => .alu .and (.loc (.reg .b))
  | .and_C => .alu .and (.loc (.reg .c))
  | .and_D => .alu .and (.loc (.reg .d))
  | .and_E => .alu .and (.loc (.reg .e))
  | .and_H => .alu .and (.loc (.reg .h))
  | .and_L => .alu .and (.loc (.reg .l))
  | .and_atHL => .alu .and (.loc .atHL)
  | .and_A => .alu .and (.loc (.reg .a))
  | .xor_B => .alu .xor (.loc (.reg .b))
  | .xor_C => .alu .xor (.loc (.reg .c))
  | .xor_D => .alu .xor (.loc (.reg .d))
  | .xor_E => .alu .xor (.loc (.reg .e))
  | .xor_H => .alu .xor (.loc (.reg .h))
  | .xor_L => .alu .xor (.loc (.reg .l))
  | .xor_atHL => .alu .xor (.loc .atHL)
  | .xor_A => .alu .xor (.loc (.reg .a))
  | .or_B => .alu .or (.loc (.reg .b))
  | .or_C => .alu .or (.loc (.reg .c))
  | .or_D => .alu .or (.loc (.reg .d))
  | .or_E => .alu .or (.loc (.reg .e))
  | .or_H => .alu .or (.loc (.reg .h))
  | .or_L => .alu .or (.loc (.reg .l))
  | .or_atHL => .alu .or (.loc .atHL)
  | .or_A => .alu .or (.loc (.reg .a))
  | .cp_B => .alu .cp (.loc (.reg .b))
  | .cp_C => .alu .cp (.loc (.reg .c))
  | .cp_D => .alu .cp (.loc (.reg .d))
  | .cp_E => .alu .cp (.loc (.reg .e))
  | .cp_H => .alu .cp (.loc (.reg .h))
  | .cp_L => .alu .cp (.loc (.reg .l))
  | .cp_atHL => .alu .cp (.loc .atHL)
  | .cp_A => .alu .cp (.loc (.reg .a))
  | .ret_NZ => .retIf .nz
  | .pop_BC => .pop .bc
  | .push_BC => .push .bc
  | .rst_00h => .rst 0
  | .ret_Z => .retIf .z
  | .ret => .ret
  | .prefixCB => .escape
  | .rst_08h => .rst 1
  | .ret_NC => .retIf .nc
  | .pop_DE => .pop .de
  | .push_DE => .push .de
  | .rst_10h => .rst 2
  | .ret_C => .retIf .c
  | .reti => .reti
  | .rst_18h => .rst 3
  | .pop_HL => .pop .hl
  | .ld_atC_A => .stAHighC
  | .push_HL => .push .hl
  | .rst_20h => .rst 4
  | .jp_HL => .jpHL
  | .rst_28h => .rst 5
  | .pop_AF => .pop .af
  | .ld_A_atC => .ldAHighC
  | .di => .di
  | .push_AF => .push .af
  | .rst_30h => .rst 6
  | .ld_SP_HL => .ldSPHL
  | .ei => .ei
  | .rst_38h => .rst 7
  | .rlc_B => .rot .rlc (.reg .b)
  | .rlc_C => .rot .rlc (.reg .c)
  | .rlc_D => .rot .rlc (.reg .d)
  | .rlc_E => .rot .rlc (.reg .e)
  | .rlc_H => .rot .rlc (.reg .h)
  | .rlc_L => .rot .rlc (.reg .l)
  | .rlc_atHL => .rot .rlc .atHL
  | .rlc_A => .rot .rlc (.reg .a)
  | .rrc_B => .rot .rrc (.reg .b)
  | .rrc_C => .rot .rrc (.reg .c)
  | .rrc_D => .rot .rrc (.reg .d)
  | .rrc_E => .rot .rrc (.reg .e)
  | .rrc_H => .rot .rrc (.reg .h)
  | .rrc_L => .rot .rrc (.reg .l)
  | .rrc_atHL => .rot .rrc .atHL
  | .rrc_A => .rot .rrc (.reg .a)
  | .rl_B => .rot .rl (.reg .b)
  | .rl_C => .rot .rl (.reg .c)
  | .rl_D => .rot .rl (.reg .d)
  | .rl_E => .rot .rl (.reg .e)
  | .rl_H => .rot .rl (.reg .h)
  | .rl_L => .rot .rl (.reg .l)
  | .rl_atHL => .rot .rl .atHL
  | .rl_A => .rot .rl (.reg .a)
  | .rr_B => .rot .rr (.reg .b)
  | .rr_C => .rot .rr (.reg .c)
  | .rr_D => .rot .rr (.reg .d)
  | .rr_E => .rot .rr (.reg .e)
  | .rr_H => .rot .rr (.reg .h)
  | .rr_L => .rot .rr (.reg .l)
  | .rr_atHL => .rot .rr .atHL
  | .rr_A => .rot .rr (.reg .a)
  | .sla_B => .rot .sla (.reg .b)
  | .sla_C => .rot .sla (.reg .c)
  | .sla_D => .rot .sla (.reg .d)
  | .sla_E => .rot .sla (.reg .e)
  | .sla_H => .rot .sla (.reg .h)
  | .sla_L => .rot .sla (.reg .l)
  | .sla_atHL => .rot .sla .atHL
  | .sla_A => .rot .sla (.reg .a)
  | .sra_B => .rot .sra (.reg .b)
  | .sra_C => .rot .sra (.reg .c)
  | .sra_D => .rot .sra (.reg .d)
  | .sra_E => .rot .sra (.reg .e)
  | .sra_H => .rot .sra (.reg .h)
  | .sra_L => .rot .sra (.reg .l)
  | .sra_atHL => .rot .sra .atHL
  | .sra_A => .rot .sra (.reg .a)
  | .swap_B => .rot .swap (.reg .b)
  | .swap_C => .rot .swap (.reg .c)
  | .swap_D => .rot .swap (.reg .d)
  | .swap_E => .rot .swap (.reg .e)
  | .swap_H => .rot .swap (.reg .h)
  | .swap_L => .rot .swap (.reg .l)
  | .swap_atHL => .rot .swap .atHL
  | .swap_A => .rot .swap (.reg .a)
  | .srl_B => .rot .srl (.reg .b)
  | .srl_C => .rot .srl (.reg .c)
  | .srl_D => .rot .srl (.reg .d)
  | .srl_E => .rot .srl (.reg .e)
  | .srl_H => .rot .srl (.reg .h)
  | .srl_L => .rot .srl (.reg .l)
  | .srl_atHL => .rot .srl .atHL
  | .srl_A => .rot .srl (.reg .a)
  | .bit_0_B => .bit 0 (.reg .b)
  | .bit_0_C => .bit 0 (.reg .c)
  | .bit_0_D => .bit 0 (.reg .d)
  | .bit_0_E => .bit 0 (.reg .e)
  | .bit_0_H => .bit 0 (.reg .h)
  | .bit_0_L => .bit 0 (.reg .l)
  | .bit_0_atHL => .bit 0 .atHL
  | .bit_0_A => .bit 0 (.reg .a)
  | .bit_1_B => .bit 1 (.reg .b)
  | .bit_1_C => .bit 1 (.reg .c)
  | .bit_1_D => .bit 1 (.reg .d)
  | .bit_1_E => .bit 1 (.reg .e)
  | .bit_1_H => .bit 1 (.reg .h)
  | .bit_1_L => .bit 1 (.reg .l)
  | .bit_1_atHL => .bit 1 .atHL
  | .bit_1_A => .bit 1 (.reg .a)
  | .bit_2_B => .bit 2 (.reg .b)
  | .bit_2_C => .bit 2 (.reg .c)
  | .bit_2_D => .bit 2 (.reg .d)
  | .bit_2_E => .bit 2 (.reg .e)
  | .bit_2_H => .bit 2 (.reg .h)
  | .bit_2_L => .bit 2 (.reg .l)
  | .bit_2_atHL => .bit 2 .atHL
  | .bit_2_A => .bit 2 (.reg .a)
  | .bit_3_B => .bit 3 (.reg .b)
  | .bit_3_C => .bit 3 (.reg .c)
  | .bit_3_D => .bit 3 (.reg .d)
  | .bit_3_E => .bit 3 (.reg .e)
  | .bit_3_H => .bit 3 (.reg .h)
  | .bit_3_L => .bit 3 (.reg .l)
  | .bit_3_atHL => .bit 3 .atHL
  | .bit_3_A => .bit 3 (.reg .a)
  | .bit_4_B => .bit 4 (.reg .b)
  | .bit_4_C => .bit 4 (.reg .c)
  | .bit_4_D => .bit 4 (.reg .d)
  | .bit_4_E => .bit 4 (.reg .e)
  | .bit_4_H => .bit 4 (.reg .h)
  | .bit_4_L => .bit 4 (.reg .l)
  | .bit_4_atHL => .bit 4 .atHL
  | .bit_4_A => .bit 4 (.reg .a)
  | .bit_5_B => .bit 5 (.reg .b)
  | .bit_5_C => .bit 5 (.reg .c)
  | .bit_5_D => .bit 5 (.reg .d)
  | .bit_5_E => .bit 5 (.reg .e)
  | .bit_5_H => .bit 5 (.reg .h)
  | .bit_5_L => .bit 5 (.reg .l)
  | .bit_5_atHL => .bit 5 .atHL
  | .bit_5_A => .bit 5 (.reg .a)
  | .bit_6_B => .bit 6 (.reg .b)
  | .bit_6_C => .bit 6 (.reg .c)
  | .bit_6_D => .bit 6 (.reg .d)
  | .bit_6_E => .bit 6 (.reg .e)
  | .bit_6_H => .bit 6 (.reg .h)
  | .bit_6_L => .bit 6 (.reg .l)
  | .bit_6_atHL => .bit 6 .atHL
  | .bit_6_A => .bit 6 (.reg .a)
  | .bit_7_B => .bit 7 (.reg .b)
  | .bit_7_C => .bit 7 (.reg .c)
  | .bit_7_D => .bit 7 (.reg .d)
  | .bit_7_E => .bit 7 (.reg .e)
  | .bit_7_H => .bit 7 (.reg .h)
  | .bit_7_L => .bit 7 (.reg .l)
  | .bit_7_atHL => .bit 7 .atHL
  | .bit_7_A => .bit 7 (.reg .a)
  | .res_0_B => .res 0 (.reg .b)
  | .res_0_C => .res 0 (.reg .c)
  | .res_0_D => .res 0 (.reg .d)
  | .res_0_E => .res 0 (.reg .e)
  | .res_0_H => .res 0 (.reg .h)
  | .res_0_L => .res 0 (.reg .l)
  | .res_0_atHL => .res 0 .atHL
  | .res_0_A => .res 0 (.reg .a)
  | .res_1_B => .res 1 (.reg .b)
  | .res_1_C => .res 1 (.reg .c)
  | .res_1_D => .res 1 (.reg .d)
  | .res_1_E => .res 1 (.reg .e)
  | .res_1_H => .res 1 (.reg .h)
  | .res_1_L => .res 1 (.reg .l)
  | .res_1_atHL => .res 1 .atHL
  | .res_1_A => .res 1 (.reg .a)
  | .res_2_B => .res 2 (.reg .b)
  | .res_2_C => .res 2 (.reg .c)
  | .res_2_D => .res 2 (.reg .d)
  | .res_2_E => .res 2 (.reg .e)
  | .res_2_H => .res 2 (.reg .h)
  | .res_2_L => .res 2 (.reg .l)
  | .res_2_atHL => .res 2 .atHL
  | .res_2_A => .res 2 (.reg .a)
  | .res_3_B => .res 3 (.reg .b)
  | .res_3_C => .res 3 (.reg .c)
  | .res_3_D => .res 3 (.reg .d)
  | .res_3_E => .res 3 (.reg .e)
  | .res_3_H => .res 3 (.reg .h)
  | .res_3_L => .res 3 (.reg .l)
  | .res_3_atHL => .res 3 .atHL
  | .res_3_A => .res 3 (.reg .a)
  | .res_4_B => .res 4 (.reg .b)
  | .res_4_C => .res 4 (.reg .c)
  | .res_4_D => .res 4 (.reg .d)
  | .res_4_E => .res 4 (.reg .e)
  | .res_4_H => .res 4 (.reg .h)
  | .res_4_L => .res 4 (.reg .l)
  | .res_4_atHL => .res 4 .atHL
  | .res_4_A => .res 4 (.reg .a)
  | .res_5_B => .res 5 (.reg .b)
  | .res_5_C => .res 5 (.reg .c)
  | .res_5_D => .res 5 (.reg .d)
  | .res_5_E => .res 5 (.reg .e)
  | .res_5_H => .res 5 (.reg .h)
  | .res_5_L => .res 5 (.reg .l)
  | .res_5_atHL => .res 5 .atHL
  | .res_5_A => .res 5 (.reg .a)
  | .res_6_B => .res 6 (.reg .b)
  | .res_6_C => .res 6 (.reg .c)
  | .res_6_D => .res 6 (.reg .d)
  | .res_6_E => .res 6 (.reg .e)
  | .res_6_H => .res 6 (.reg .h)
  | .res_6_L => .res 6 (.reg .l)
  | .res_6_atHL => .res 6 .atHL
  | .res_6_A => .res 6 (.reg .a)
  | .res_7_B => .res 7 (.reg .b)
  | .res_7_C => .res 7 (.reg .c)
  | .res_7_D => .res 7 (.reg .d)
  | .res_7_E => .res 7 (.reg .e)
  | .res_7_H => .res 7 (.reg .h)
  | .res_7_L => .res 7 (.reg .l)
  | .res_7_atHL => .res 7 .atHL
  | .res_7_A => .res 7 (.reg .a)
  | .set_0_B => .set 0 (.reg .b)
  | .set_0_C => .set 0 (.reg .c)
  | .set_0_D => .set 0 (.reg .d)
  | .set_0_E => .set 0 (.reg .e)
  | .set_0_H => .set 0 (.reg .h)
  | .set_0_L => .set 0 (.reg .l)
  | .set_0_atHL => .set 0 .atHL
  | .set_0_A => .set 0 (.reg .a)
  | .set_1_B => .set 1 (.reg .b)
  | .set_1_C => .set 1 (.reg .c)
  | .set_1_D => .set 1 (.reg .d)
  | .set_1_E => .set 1 (.reg .e)
  | .set_1_H => .set 1 (.reg .h)
  | .set_1_L => .set 1 (.reg .l)
  | .set_1_atHL => .set 1 .atHL
  | .set_1_A => .set 1 (.reg .a)
  | .set_2_B => .set 2 (.reg .b)
  | .set_2_C => .set 2 (.reg .c)
  | .set_2_D => .set 2 (.reg .d)
  | .set_2_E => .set 2 (.reg .e)
  | .set_2_H => .set 2 (.reg .h)
  | .set_2_L => .set 2 (.reg .l)
  | .set_2_atHL => .set 2 .atHL
  | .set_2_A => .set 2 (.reg .a)
  | .set_3_B => .set 3 (.reg .b)
  | .set_3_C => .set 3 (.reg .c)
  | .set_3_D => .set 3 (.reg .d)
  | .set_3_E => .set 3 (.reg .e)
  | .set_3_H => .set 3 (.reg .h)
  | .set_3_L => .set 3 (.reg .l)
  | .set_3_atHL => .set 3 .atHL
  | .set_3_A => .set 3 (.reg .a)
  | .set_4_B => .set 4 (.reg .b)
  | .set_4_C => .set 4 (.reg .c)
  | .set_4_D => .set 4 (.reg .d)
  | .set_4_E => .set 4 (.reg .e)
  | .set_4_H => .set 4 (.reg .h)
  | .set_4_L => .set 4 (.reg .l)
  | .set_4_atHL => .set 4 .atHL
  | .set_4_A => .set 4 (.reg .a)
  | .set_5_B => .set 5 (.reg .b)
  | .set_5_C => .set 5 (.reg .c)
  | .set_5_D => .set 5 (.reg .d)
  | .set_5_E => .set 5 (.reg .e)
  | .set_5_H => .set 5 (.reg .h)
  | .set_5_L => .set 5 (.reg .l)
  | .set_5_atHL => .set 5 .atHL
  | .set_5_A => .set 5 (.reg .a)
  | .set_6_B => .set 6 (.reg .b)
  | .set_6_C => .set 6 (.reg .c)
  | .set_6_D => .set 6 (.reg .d)
  | .set_6_E => .set 6 (.reg .e)
  | .set_6_H => .set 6 (.reg .h)
  | .set_6_L => .set 6 (.reg .l)
  | .set_6_atHL => .set 6 .atHL
  | .set_6_A => .set 6 (.reg .a)
  | .set_7_B => .set 7 (.reg .b)
  | .set_7_C => .set 7 (.reg .c)
  | .set_7_D => .set 7 (.reg .d)
  | .set_7_E => .set 7 (.reg .e)
  | .set_7_H => .set 7 (.reg .h)
  | .set_7_L => .set 7 (.reg .l)
  | .set_7_atHL => .set 7 .atHL
  | .set_7_A => .set 7 (.reg .a)

/-- An opcode byte from the fields x, y, z (R62, R63). -/
def opcode (x : BitVec 2) (y z : BitVec 3) : Byte := x ++ y ++ z

/-- An opcode byte from the fields x, p, q, z (R63). -/
def opcodePQ (x p : BitVec 2) (q : BitVec 1) (z : BitVec 3) : Byte := x ++ p ++ q ++ z

/-- The bytes of an immediate word in address order, low byte first (R46, R62). -/
def wordBytes (nn : Word) : List Byte := [loByte nn, hiByte nn]

/-- The y of a conditional form whose condition number is k = y - 4 (R69). -/
def condHigh (k : Cond) : BitVec 3 := 1#1 ++ k.code

/-- The y of a conditional form whose condition number is k = y (R69). -/
def condLow (k : Cond) : BitVec 3 := 0#1 ++ k.code

/-- The bit number y of an instruction as a field (R76). -/
def bitField (y : Fin 8) : BitVec 3 := BitVec.ofNat 3 y.val

/-- The bytes of each form, from the maps R72 to R76. -/
def Form.encode : Form → List Byte
  | .nop => [opcode 0 0 0]
  | .stSPAbs nn => opcode 0 1 0 :: wordBytes nn
  | .stop n => [opcode 0 2 0, n]
  | .jr d => [opcode 0 3 0, d]
  | .jrIf k d => [opcode 0 (condHigh k) 0, d]
  | .ldPairImm p nn => opcodePQ 0 p.code 0 1 :: wordBytes nn
  | .addHL p => [opcodePQ 0 p.code 1 1]
  | .stAPtr q => [opcodePQ 0 q.code 0 2]
  | .stAStep k => [opcodePQ 0 k.code 0 2]
  | .ldAPtr q => [opcodePQ 0 q.code 1 2]
  | .ldAStep k => [opcodePQ 0 k.code 1 2]
  | .inc16 p => [opcodePQ 0 p.code 0 3]
  | .dec16 p => [opcodePQ 0 p.code 1 3]
  | .inc8 o => [opcode 0 o.code 4]
  | .dec8 o => [opcode 0 o.code 5]
  | .ldImm r n => [opcode 0 r.code 6, n]
  | .ldHLImm n => [opcode 0 6 6, n]
  | .rotA op => [opcode 0 op.code 7]
  | .daa => [opcode 0 4 7]
  | .cpl => [opcode 0 5 7]
  | .scf => [opcode 0 6 7]
  | .ccf => [opcode 0 7 7]
  | .ldReg dst src => [opcode 1 dst.code src.code]
  | .ldFromHL r => [opcode 1 r.code 6]
  | .ldToHL r => [opcode 1 6 r.code]
  | .halt => [opcode 1 6 6]
  | .alu op (.loc o) => [opcode 2 op.code o.code]
  | .alu op (.imm n) => [opcode 3 op.code 6, n]
  | .retIf k => [opcode 3 (condLow k) 0]
  | .stAHigh n => [opcode 3 4 0, n]
  | .addSP d => [opcode 3 5 0, d]
  | .ldAHigh n => [opcode 3 6 0, n]
  | .ldHLSP d => [opcode 3 7 0, d]
  | .pop q => [opcodePQ 3 q.code 0 1]
  | .ret => [opcodePQ 3 0 1 1]
  | .reti => [opcodePQ 3 1 1 1]
  | .jpHL => [opcodePQ 3 2 1 1]
  | .ldSPHL => [opcodePQ 3 3 1 1]
  | .jpIf k nn => opcode 3 (condLow k) 2 :: wordBytes nn
  | .stAHighC => [opcode 3 4 2]
  | .stAAbs nn => opcode 3 5 2 :: wordBytes nn
  | .ldAHighC => [opcode 3 6 2]
  | .ldAAbs nn => opcode 3 7 2 :: wordBytes nn
  | .jp nn => opcode 3 0 3 :: wordBytes nn
  | .escape => [escapeByte]
  | .di => [opcode 3 6 3]
  | .ei => [opcode 3 7 3]
  | .callIf k nn => opcode 3 (condLow k) 4 :: wordBytes nn
  | .push q => [opcodePQ 3 q.code 0 5]
  | .call nn => opcodePQ 3 0 1 5 :: wordBytes nn
  | .rst y => [opcode 3 (bitField y) 7]
  | .undefined op => [op]
  | .rot op o => [escapeByte, opcode 0 op.code o.code]
  | .bit y o => [escapeByte, opcode 1 (bitField y) o.code]
  | .res y o => [escapeByte, opcode 2 (bitField y) o.code]
  | .set y o => [escapeByte, opcode 3 (bitField y) o.code]

/-- The encoder: the bytes of an instruction in address order. -/
def encode (i : Instr) : List Byte := i.form.encode

end Sys2Proof
end

