-- ==== Sys2Proof/Machine/State.lean ====
section
/-! DEFINITION. The state of CORE (`10_state.md`, `20_memory.md`), the fault records, the refusals, and
the state after reset (`70_reset_and_hazards.md` R280). -/

namespace Sys2Proof.Machine

/-- The fault records of R251, the values of the `fault` latch. A step that meets a fault answers a
next state whose only change is the latch (R254); every later step answers `.fault` with the latched
record (R256). Safe: the machine stops. -/
inductive Fault where
  /-- Code 1 (R252): raised by the eleven undefined bytes; the address of the byte, and the byte.
  Raised by `execIllegal`. Safe. -/
  | unrecognizedOpcode (pc : Word) (byte : Byte)
  /-- Code 2 (R253): a fetch past the end of the image; the address out of range, and the `pc` of the
  instruction. Raised by the loop, and by `execPrefixCB`. Safe. -/
  | outOfBoundsProgramRead (addr pc : Word)
  /-- Code 3 (R255): a defect of the opcode tables, found when they are built (`tableFault`). No step
  raises it. Safe. -/
  | malformedTableEntry (slot : Slot)
deriving DecidableEq, Repr

/-- Why a step has no meaning. -/
inductive Refusal where
  /-- An instruction whose arm of `exec` has no meaning; no arm of this model answers it. Safe. -/
  | notModelled (mnemonic : String)
  /-- R97: the slot's operation is null under `IMPL`; "A model should treat `Unimplemented` as a
  refusal". Raised by the loop only, never by an instruction's meaning, and never under `IMPL_ALL`.
  `runInstruction` gives the state change R97 describes. Safe (log entry 6). -/
  | unimplemented (slot : Slot)
deriving DecidableEq, Repr

/-- The latch `halted` (R24). -/
inductive RunState where
  | running
  | halted
  | stopped
deriving DecidableEq, Repr

/-- The data memory (R40, R41): address and byte pairs, addresses strictly rising and below 65536, no
byte zero; an unlisted address reads as 0, the reset value of every byte (R280). `Memory.wf` says so. -/
abbrev Memory := List Host.Cell

/-- The whole state. -/
structure State where
  /-- accumulator (R11) -/
  a : Byte
  b : Byte
  c : Byte
  d : Byte
  e : Byte
  h : Byte
  l : Byte
  /-- flags byte: Z, N, H, C at bits 7 to 4 (R14) -/
  f : Byte
  /-- stack pointer (R20) -/
  sp : Word
  /-- program counter (R18) -/
  pc : Word
  /-- completed instructions (R21) -/
  tickCount : BitVec 64
  /-- R23: written by `DI`, `EI`, `RETI`; read by nothing -/
  ime : Bool
  /-- R24 -/
  halted : RunState
  /-- R25 -/
  fault : Option Fault
  /-- data memory (R40) -/
  mem : Memory
  /-- program image, read by fetch only (R40, R43); its length is `IMAGE_LEN` (R5) -/
  image : List Byte
  /-- the parameters `IMPL` and `ROT_FLAGS` (R6, R7); no step changes them (R26) -/
  config : Config
deriving DecidableEq, Repr

/-- The state after reset (R280) of a machine with parameters `cfg` whose unspecified registers hold
`r` (R281). -/
def State.resetWith (cfg : Config) (r : ResetRegs) : State where
  a := r.a
  b := r.b
  c := r.c
  d := r.d
  e := r.e
  h := r.h
  l := r.l
  f := r.fHigh ++ 0#4
  sp := r.sp
  pc := 0
  tickCount := 0
  ime := false
  halted := .running
  fault := none
  mem := []
  image := []
  config := cfg

/-- The machine right after reset, with the spec's default parameters. The values of the registers that
R280 leaves unspecified are this model's: DESIGN CHOICE, unsafe (log entries 1 and 2). -/
def State.reset : State := State.resetWith Config.standard ResetRegs.zero

end Sys2Proof.Machine
end

