-- ==== Sys2Proof/Machine/Flags.lean ====
section
/-! DEFINITION. The flags byte (`10_state.md` R14 to R17) and every flag computation: 8-bit and 16-bit
arithmetic, decimal adjust, rotates and shifts. Carries are comparisons of exact `Nat` results, as the
rules write them with `int(...)`. -/

namespace Sys2Proof.Machine

/-! ### The flags byte -/

/-- `F.Z`, bit 7 (R14). -/
def flagZ (f : Byte) : Bool := f.getLsbD 7

/-- `F.N`, bit 6 (R14). -/
def flagN (f : Byte) : Bool := f.getLsbD 6

/-- `F.H`, bit 5 (R14). -/
def flagH (f : Byte) : Bool := f.getLsbD 5

/-- `F.C`, bit 4 (R14). -/
def flagC (f : Byte) : Bool := f.getLsbD 4

/-- Bits 3 to 0, "always zero" (R15). -/
def flagLow (f : Byte) : BitVec 4 := f.extractLsb' 0 4

/-- A flags byte from its four flags and its low nibble (R14). -/
def packFlags (z n h c : Bool) (low : BitVec 4) : Byte :=
  BitVec.ofBool z ++ BitVec.ofBool n ++ BitVec.ofBool h ++ BitVec.ofBool c ++ low

/-- What an instruction does to the flags: `none` leaves a flag unchanged, the `-` of R16. -/
structure FlagWrite where
  z : Option Bool := none
  n : Option Bool := none
  h : Option Bool := none
  c : Option Bool := none
deriving DecidableEq, Repr

/-- All four flags written. -/
def FlagWrite.all (z n h c : Bool) : FlagWrite := { z := some z, n := some n, h := some h, c := some c }

/-- Flag isolation (R15): a flag that is not written keeps its bit, and so do bits 3 to 0. -/
def writeFlags (f : Byte) (w : FlagWrite) : Byte :=
  packFlags (w.z.getD (flagZ f)) (w.n.getD (flagN f)) (w.h.getD (flagH f)) (w.c.getD (flagC f))
    (flagLow f)

/-- The popped flags byte, bits 3 to 0 forced to zero (R212). -/
def maskFlags (v : Byte) : Byte := v &&& 0xF0

/-- A condition of the flags (R69). -/
def condHolds (k : Cond) (f : Byte) : Bool :=
  match k with
  | .nz => !flagZ f
  | .z => flagZ f
  | .nc => !flagC f
  | .c => flagC f

/-! ### 8-bit arithmetic and logic (R151 to R160) -/

/-- A result byte and the four flags. -/
structure Out8 where
  value : Byte
  z : Bool
  n : Bool
  h : Bool
  c : Bool
deriving DecidableEq, Repr

/-- `int(v[3:0])`. -/
def lowNibble (v : Byte) : Nat := v.toNat % 16

/-- A carry as a number. -/
def carryNat (c : Bool) : Nat := if c then 1 else 0

/-- `ADD` (no carry in, R154) and `ADC` (R155). -/
def add8 (a v : Byte) (cin : Bool) : Out8 :=
  let sum := a.toNat + v.toNat + carryNat cin
  { value := BitVec.ofNat 8 sum
    z := sum % 256 == 0
    n := false
    h := decide (lowNibble a + lowNibble v + carryNat cin > 0xF)
    c := decide (sum > 0xFF) }

/-- `SUB` and `CP` (no borrow in, R156, R160) and `SBC` (R157). -/
def sub8 (a v : Byte) (cin : Bool) : Out8 :=
  let dif : Int := a.toNat - v.toNat - carryNat cin
  { value := BitVec.ofInt 8 dif
    z := dif % 256 == 0
    n := true
    h := decide ((lowNibble a : Int) - lowNibble v - carryNat cin < 0)
    c := decide (dif < 0) }

/-- `AND` (R158). -/
def and8 (a v : Byte) : Out8 :=
  { value := a &&& v, z := a &&& v == 0, n := false, h := true, c := false }

/-- `XOR` (R151). -/
def xor8 (a v : Byte) : Out8 :=
  { value := a ^^^ v, z := a ^^^ v == 0, n := false, h := false, c := false }

/-- `OR` (R159). -/
def or8 (a v : Byte) : Out8 :=
  { value := a ||| v, z := a ||| v == 0, n := false, h := false, c := false }

/-- The eight operations `alu[y]` (R70): the new `A` and the flags. `CP` leaves `A` (R160). -/
def alu8 (op : AluOp) (a v : Byte) (cin : Bool) : Out8 :=
  match op with
  | .add => add8 a v false
  | .adc => add8 a v cin
  | .sub => sub8 a v false
  | .sbc => sub8 a v cin
  | .and => and8 a v
  | .xor => xor8 a v
  | .or => or8 a v
  | .cp => { sub8 a v false with value := a }

/-- The flags of `INC` (R140, R141): C unchanged. -/
def incFlags (v : Byte) : FlagWrite :=
  { z := some (v + 1 == 0), n := some false, h := some (lowNibble v == 0xF) }

/-- The flags of `DEC` (R142, R143): C unchanged. -/
def decFlags (v : Byte) : FlagWrite :=
  { z := some (v - 1 == 0), n := some true, h := some (lowNibble v == 0x0) }

/-- The adjustment of `DAA` (R161), and its carry out. -/
def daaAdjust (a : Byte) (n h c : Bool) : Nat × Bool :=
  if n then
    ((if h then 0x06 else 0) + (if c then 0x60 else 0), c)
  else
    let low := h || decide (lowNibble a > 9)
    let high := c || decide (a.toNat > 0x99)
    ((if low then 0x06 else 0) + (if high then 0x60 else 0), high)

/-- The new `A` of `DAA` (R161). -/
def daaValue (a : Byte) (n h c : Bool) : Byte :=
  let adj := (daaAdjust a n h c).1
  if n then BitVec.ofInt 8 ((a.toNat : Int) - adj) else BitVec.ofNat 8 (a.toNat + adj)

/-! ### 16-bit additions (R230 to R232) -/

/-- The flags of `ADD HL,rp` (R230): Z unchanged, carries out of bits 11 and 15. -/
def addHLFlags (a b : Word) : FlagWrite :=
  { n := some false
    h := some (decide (a.toNat % 4096 + b.toNat % 4096 > 0xFFF))
    c := some (decide (a.toNat + b.toNat > 0xFFFF)) }

/-- The flags of `ADD SP,d` and `LD HL,SP+d` (R231, R232): carries out of bits 3 and 7 of the low
bytes, `d` taken unsigned. -/
def addSPFlags (sp : Word) (d : Byte) : FlagWrite :=
  FlagWrite.all false false
    (decide (sp.toNat % 16 + lowNibble d > 0xF))
    (decide (sp.toNat % 256 + d.toNat > 0xFF))

/-! ### Rotates and shifts (R181 to R195) -/

/-- The eight operations `rot[y]` (R71): the result, and the carry flag they leave. -/
def rotate8 (op : RotOp) (v : Byte) (cin : Bool) : Byte × Bool :=
  match op with
  | .rlc => (v.extractLsb' 0 7 ++ v.extractLsb' 7 1, v.getLsbD 7)
  | .rrc => (v.extractLsb' 0 1 ++ v.extractLsb' 1 7, v.getLsbD 0)
  | .rl => (v.extractLsb' 0 7 ++ BitVec.ofBool cin, v.getLsbD 7)
  | .rr => (BitVec.ofBool cin ++ v.extractLsb' 1 7, v.getLsbD 0)
  | .sla => (v.extractLsb' 0 7 ++ 0#1, v.getLsbD 7)
  | .sra => (v.extractLsb' 7 1 ++ v.extractLsb' 1 7, v.getLsbD 0)
  | .swap => (v.extractLsb' 0 4 ++ v.extractLsb' 4 4, false)
  | .srl => (0#1 ++ v.extractLsb' 1 7, v.getLsbD 0)

/-- The flags of a `cb` rotate or shift: `RLC` and `RL` write C only when `ROT_FLAGS = gb` (R181, R182);
all others, and these when `ROT_FLAGS = lr35902`, write all four (R186 to R191). -/
def rotateFlags (rf : RotFlags) (op : RotOp) (res : Byte) (c : Bool) : FlagWrite :=
  match op, rf with
  | .rlc, .gb => { c := some c }
  | .rl, .gb => { c := some c }
  | _, _ => FlagWrite.all (res == 0) false false c

/-- The rotate a one-byte rotate of `A` applies (R183, R184, R194, R195). -/
def rotAOp : RotAOp → RotOp
  | .rlca => .rlc
  | .rrca => .rrc
  | .rla => .rl
  | .rra => .rr

/-- The flags of the one-byte rotates of `A`: `RLCA` and `RLA` write C only when `ROT_FLAGS = gb` (R183,
R184); otherwise all four with Z forced to 0 (R183, R184, R194, R195). -/
def rotateAFlags (rf : RotFlags) (op : RotAOp) (c : Bool) : FlagWrite :=
  match op, rf with
  | .rlca, .gb => { c := some c }
  | .rla, .gb => { c := some c }
  | _, _ => FlagWrite.all false false false c

end Sys2Proof.Machine
end

