-- ==== Sys2Proof/Machine/Ops.lean ====
section
/-! DEFINITION. The named operations on the state: data memory, registers and pairs, the stack, the
program image, completing an instruction, and raising a fault. -/

namespace Sys2Proof.Machine

/-- What a meaning answers. -/
abbrev Result := Host.Outcome State Fault Refusal

/-! ### Data memory (R41, R44, R47) -/

/-- The byte at an address; 0 where nothing is listed (R41, R44). -/
def Memory.read : Memory → Nat → Byte
  | [], _ => 0
  | (k, v) :: m, a => if k = a then v else Memory.read m a

/-- A memory without the cells of one address. -/
def Memory.erase (m : Memory) (a : Nat) : Memory := m.filter (fun cell => cell.1 != a)

/-- A cell put in its place by address. -/
def Memory.insert (a : Nat) (v : Byte) : Memory → Memory
  | [] => [(a, v)]
  | cell :: m => if a < cell.1 then (a, v) :: cell :: m else cell :: Memory.insert a v m

/-- Replaces the byte at an address (R44), keeping the canonical form: a zero byte is not listed. -/
def Memory.write (m : Memory) (a : Nat) (v : Byte) : Memory :=
  if v = 0 then Memory.erase m a else Memory.insert a v (Memory.erase m a)

/-- The canonical form, from address `lo` on. -/
def Memory.wfFrom : Nat → Memory → Bool
  | _, [] => true
  | lo, (k, v) :: m => decide (lo ≤ k) && decide (k < 65536) && v != 0 && Memory.wfFrom (k + 1) m

/-- The canonical form: addresses strictly rising and below 65536, no byte zero. -/
def Memory.wf (m : Memory) : Bool := Memory.wfFrom 0 m

/-- `MemRead(addr, 1)` (R44). -/
def State.readMem (s : State) (addr : Word) : Byte := Memory.read s.mem addr.toNat

/-- `MemWrite(addr, 1, v)` (R44). -/
def State.writeMem (s : State) (addr : Word) (v : Byte) : State :=
  { s with mem := Memory.write s.mem addr.toNat v }

/-- `MemRead(addr, 2)`: low byte at `addr`, high byte at `addr + 1` modulo 65536 (R47). -/
def State.readMem16 (s : State) (addr : Word) : Word := mkWord (s.readMem (addr + 1)) (s.readMem addr)

/-- `MemWrite(addr, 2, v)`: `v[7:0]` at `addr`, then `v[15:8]` at `addr + 1` modulo 65536 (R47). -/
def State.writeMem16 (s : State) (addr v : Word) : State :=
  (s.writeMem addr (loByte v)).writeMem (addr + 1) (hiByte v)

/-! ### Registers and pairs (R10, R12) -/

/-- Reads a general register. -/
def State.reg (s : State) : Reg8 → Byte
  | .b => s.b
  | .c => s.c
  | .d => s.d
  | .e => s.e
  | .h => s.h
  | .l => s.l
  | .a => s.a

/-- Writes a general register. -/
def State.setReg (s : State) (r : Reg8) (v : Byte) : State :=
  match r with
  | .b => { s with b := v }
  | .c => { s with c := v }
  | .d => { s with d := v }
  | .e => { s with e := v }
  | .h => { s with h := v }
  | .l => { s with l := v }
  | .a => { s with a := v }

/-- The view `BC` (R12). -/
def State.bc (s : State) : Word := mkWord s.b s.c

/-- The view `DE` (R12). -/
def State.de (s : State) : Word := mkWord s.d s.e

/-- The view `HL` (R12). -/
def State.hl (s : State) : Word := mkWord s.h s.l

/-- The view `AF` (R12). -/
def State.af (s : State) : Word := mkWord s.a s.f

/-- `BC <- v` (R12). -/
def State.setBC (s : State) (v : Word) : State := { s with b := hiByte v, c := loByte v }

/-- `DE <- v` (R12). -/
def State.setDE (s : State) (v : Word) : State := { s with d := hiByte v, e := loByte v }

/-- `HL <- v` (R12). -/
def State.setHL (s : State) (v : Word) : State := { s with h := hiByte v, l := loByte v }

/-! ### The stack (R20, R48) -/

/-- Pushes one byte: `sp` is decremented, then the byte stored (R20). -/
def State.pushByte (s : State) (v : Byte) : State :=
  { s with sp := s.sp - 1, mem := Memory.write s.mem (s.sp - 1).toNat v }

/-- `Push16` (`46_stack_call.md`): most-significant byte first (R48). -/
def State.push16 (s : State) (v : Word) : State := (s.pushByte (hiByte v)).pushByte (loByte v)

/-- The value `Pop16` returns: low byte at `sp`, high byte at `sp + 1` (R48). -/
def State.top16 (s : State) : Word := mkWord (s.readMem (s.sp + 1)) (s.readMem s.sp)

/-- `sp` after `Pop16`: one increment per byte (R20). -/
def State.drop16 (s : State) : State := { s with sp := s.sp + 1 + 1 }

/-- `Pop16` (`46_stack_call.md`): the value and the state after. -/
def State.pop16 (s : State) : Word × State := (s.top16, s.drop16)

/-! ### The program image (R42) -/

/-- `ProgRead(addr)`: `none` where `int(addr) >= IMAGE_LEN` (R42). -/
def State.progRead (s : State) (addr : Word) : Option Byte := s.image[addr.toNat]?

/-! ### Completing an instruction (R98, R99) -/

/-- A completed control transfer: `pc <- target` (R100), and `tickCount` counts it (R99). -/
def State.jumpTo (s : State) (target : Word) : State :=
  { s with pc := target, tickCount := s.tickCount + 1 }

/-- A completed instruction of `len` bytes: `pc <- pc + len` modulo 65536 (R98), counted (R99). -/
def State.advance (s : State) (len : Nat) : State := s.jumpTo (s.pc + BitVec.ofNat 16 len)

/-! ### Faults (R251 to R256) -/

/-- Raising a fault: nothing changes but the latch (R254). The one shared operation of exception entry:
CORE saves nothing and transfers control nowhere (R259). -/
def State.raise (s : State) (r : Fault) : State := { s with fault := some r }

/-- Clearing the two latches, by reset and `LoadProgram` only (R256, R283). There is no return from a
fault (R260). -/
def State.clearLatches (s : State) : State := { s with fault := none, halted := .running }

/-- The numeric codes of R251. -/
def Fault.code : Fault → Nat
  | .unrecognizedOpcode _ _ => 1
  | .outOfBoundsProgramRead _ _ => 2
  | .malformedTableEntry _ => 3

end Sys2Proof.Machine
end

