-- ==== Sys2Proof/Machine/Operands.lean ====
section
/-! DEFINITION. Every operand form (`30_encoding.md` R66 to R69, `43_alu8.md` R150): reading and writing
the operands the index tables name. -/

namespace Sys2Proof.Machine

/-- `r[i]` (R66). -/
def State.loc (s : State) : Loc8 → Byte
  | .reg r => s.reg r
  | .atHL => s.readMem s.hl

/-- `r[i] <- v` (R66). -/
def State.setLoc (s : State) (o : Loc8) (v : Byte) : State :=
  match o with
  | .reg r => s.setReg r v
  | .atHL => s.writeMem s.hl v

/-- The second operand of an ALU operation (R150). -/
def State.src (s : State) : Src8 → Byte
  | .loc o => s.loc o
  | .imm n => n

/-- The length of an ALU instruction by its operand (R150). -/
def aluLen : Src8 → Nat
  | .loc _ => 1
  | .imm _ => 2

/-- `rp[p]` (R67). -/
def State.rp (s : State) : RP → Word
  | .bc => s.bc
  | .de => s.de
  | .hl => s.hl
  | .sp => s.sp

/-- `rp[p] <- v` (R67). -/
def State.setRP (s : State) (p : RP) (v : Word) : State :=
  match p with
  | .bc => s.setBC v
  | .de => s.setDE v
  | .hl => s.setHL v
  | .sp => { s with sp := v }

/-- `rp2[p]` (R68). -/
def State.rp2 (s : State) : RP2 → Word
  | .bc => s.bc
  | .de => s.de
  | .hl => s.hl
  | .af => s.af

/-- `rp2[p] <- v` (R68); into `AF` the low four bits of `F` are forced to zero (R212). -/
def State.setRP2 (s : State) (q : RP2) (v : Word) : State :=
  match q with
  | .bc => s.setBC v
  | .de => s.setDE v
  | .hl => s.setHL v
  | .af => { s with a := hiByte v, f := maskFlags (loByte v) }

/-- The address of an accumulator load or store through a pair (R117 to R120). -/
def State.ptr (s : State) : PtrPair → Word
  | .bc => s.bc
  | .de => s.de

/-- `HL` after a stepping load or store, modulo 65536 (R130 to R133). -/
def stepHL (k : HLStep) (v : Word) : Word :=
  match k with
  | .inc => v + 1
  | .dec => v - 1

/-- The high page: `0xFF00 + zext_16(b)` (R124 to R127). -/
def highPage (b : Byte) : Word := 0xFF00#16 + zext16 b

/-- Writes flags, each as its rule says (R15). -/
def State.withFlags (s : State) (w : FlagWrite) : State := { s with f := writeFlags s.f w }

/-- `cc[k]`, of the flags before the instruction (R69). -/
def State.cond (s : State) (k : Cond) : Bool := condHolds k s.f

/-- The carry flag as carry in (R17). -/
def State.carry (s : State) : Bool := flagC s.f

end Sys2Proof.Machine
end

