-- ==== Sys2Proof/Machine/Alu16.lean ====
section
/-! DEFINITION. 16-bit addition (`47_alu16.md`). -/

namespace Sys2Proof.Machine

/-! ### Shared operations -/

/-- R230: Z unchanged. -/
def addPairToHL (p : RP) (s : State) : Result :=
  .next (((s.setHL (s.hl + s.rp p)).withFlags (addHLFlags s.hl (s.rp p))).advance 1)

/-- R231. -/
def addDispToSP (d : Byte) (s : State) : Result :=
  .next (((s.setRP .sp (s.sp + sext16 d)).withFlags (addSPFlags s.sp d)).advance 2)

/-- R232. -/
def loadHLFromSP (d : Byte) (s : State) : Result :=
  .next (((s.setHL (s.sp + sext16 d)).withFlags (addSPFlags s.sp d)).advance 2)

/-! ### The instructions -/

/-- `ADD HL,BC` (R230). -/
def execAdd_HL_BC (s : State) : Result := addPairToHL .bc s

/-- `ADD HL,DE` (R230). -/
def execAdd_HL_DE (s : State) : Result := addPairToHL .de s

/-- `ADD HL,HL` (R230). -/
def execAdd_HL_HL (s : State) : Result := addPairToHL .hl s

/-- `ADD HL,SP` (R230). -/
def execAdd_HL_SP (s : State) : Result := addPairToHL .sp s

/-- `ADD SP,d` (R231). -/
def execAdd_SP_d (d : Byte) (s : State) : Result := addDispToSP d s

/-- `LD HL,SP+d` (R232). -/
def execLd_HL_SPplusD (d : Byte) (s : State) : Result := loadHLFromSP d s

end Sys2Proof.Machine
end

