-- ==== Sys2Proof/Machine/Alu8.lean ====
section
/-! DEFINITION. 8-bit arithmetic and logic on the accumulator (`43_alu8.md`). -/

namespace Sys2Proof.Machine

/-! ### Shared operations -/

/-- R150 to R160: `A` and the flags from `alu[y]` of `A` and the selected operand. -/
def aluOp (op : AluOp) (v : Src8) (s : State) : Result :=
  let out := alu8 op s.a (s.src v) s.carry
  .next (((s.setReg .a out.value).withFlags (.all out.z out.n out.h out.c)).advance (aluLen v))

/-- R161: N unchanged. -/
def decimalAdjust (s : State) : Result :=
  let res := daaValue s.a (flagN s.f) (flagH s.f) (flagC s.f)
  let c := (daaAdjust s.a (flagN s.f) (flagH s.f) (flagC s.f)).2
  .next (((s.setReg .a res).withFlags { z := some (res == 0), h := some false, c := some c }).advance 1)

/-- R162: Z and C unchanged. -/
def complementA (s : State) : Result :=
  .next (((s.setReg .a (~~~s.a)).withFlags { n := some true, h := some true }).advance 1)

/-- R163: Z unchanged. -/
def setCarry (s : State) : Result :=
  .next ((s.withFlags { n := some false, h := some false, c := some true }).advance 1)

/-- R164: Z unchanged. -/
def complementCarry (s : State) : Result :=
  .next ((s.withFlags { n := some false, h := some false, c := some (!s.carry) }).advance 1)

/-! ### The instructions -/

/-- `DAA` (R161). -/
def execDaa (s : State) : Result := decimalAdjust s

/-- `CPL` (R162). -/
def execCpl (s : State) : Result := complementA s

/-- `SCF` (R163). -/
def execScf (s : State) : Result := setCarry s

/-- `CCF` (R164). -/
def execCcf (s : State) : Result := complementCarry s

/-- `ADD A,B` (R154). -/
def execAdd_A_B (s : State) : Result := aluOp .add (.loc (.reg .b)) s

/-- `ADD A,C` (R154). -/
def execAdd_A_C (s : State) : Result := aluOp .add (.loc (.reg .c)) s

/-- `ADD A,D` (R154). -/
def execAdd_A_D (s : State) : Result := aluOp .add (.loc (.reg .d)) s

/-- `ADD A,E` (R154). -/
def execAdd_A_E (s : State) : Result := aluOp .add (.loc (.reg .e)) s

/-- `ADD A,H` (R154). -/
def execAdd_A_H (s : State) : Result := aluOp .add (.loc (.reg .h)) s

/-- `ADD A,L` (R154). -/
def execAdd_A_L (s : State) : Result := aluOp .add (.loc (.reg .l)) s

/-- `ADD A,(HL)` (R154). -/
def execAdd_A_atHL (s : State) : Result := aluOp .add (.loc .atHL) s

/-- `ADD A,A` (R154). -/
def execAdd_A_A (s : State) : Result := aluOp .add (.loc (.reg .a)) s

/-- `ADC A,B` (R155). -/
def execAdc_A_B (s : State) : Result := aluOp .adc (.loc (.reg .b)) s

/-- `ADC A,C` (R155). -/
def execAdc_A_C (s : State) : Result := aluOp .adc (.loc (.reg .c)) s

/-- `ADC A,D` (R155). -/
def execAdc_A_D (s : State) : Result := aluOp .adc (.loc (.reg .d)) s

/-- `ADC A,E` (R155). -/
def execAdc_A_E (s : State) : Result := aluOp .adc (.loc (.reg .e)) s

/-- `ADC A,H` (R155). -/
def execAdc_A_H (s : State) : Result := aluOp .adc (.loc (.reg .h)) s

/-- `ADC A,L` (R155). -/
def execAdc_A_L (s : State) : Result := aluOp .adc (.loc (.reg .l)) s

/-- `ADC A,(HL)` (R155). -/
def execAdc_A_atHL (s : State) : Result := aluOp .adc (.loc .atHL) s

/-- `ADC A,A` (R155). -/
def execAdc_A_A (s : State) : Result := aluOp .adc (.loc (.reg .a)) s

/-- `SUB B` (R156). -/
def execSub_B (s : State) : Result := aluOp .sub (.loc (.reg .b)) s

/-- `SUB C` (R156). -/
def execSub_C (s : State) : Result := aluOp .sub (.loc (.reg .c)) s

/-- `SUB D` (R156). -/
def execSub_D (s : State) : Result := aluOp .sub (.loc (.reg .d)) s

/-- `SUB E` (R156). -/
def execSub_E (s : State) : Result := aluOp .sub (.loc (.reg .e)) s

/-- `SUB H` (R156). -/
def execSub_H (s : State) : Result := aluOp .sub (.loc (.reg .h)) s

/-- `SUB L` (R156). -/
def execSub_L (s : State) : Result := aluOp .sub (.loc (.reg .l)) s

/-- `SUB (HL)` (R156). -/
def execSub_atHL (s : State) : Result := aluOp .sub (.loc .atHL) s

/-- `SUB A` (R156). -/
def execSub_A (s : State) : Result := aluOp .sub (.loc (.reg .a)) s

/-- `SBC A,B` (R157). -/
def execSbc_A_B (s : State) : Result := aluOp .sbc (.loc (.reg .b)) s

/-- `SBC A,C` (R157). -/
def execSbc_A_C (s : State) : Result := aluOp .sbc (.loc (.reg .c)) s

/-- `SBC A,D` (R157). -/
def execSbc_A_D (s : State) : Result := aluOp .sbc (.loc (.reg .d)) s

/-- `SBC A,E` (R157). -/
def execSbc_A_E (s : State) : Result := aluOp .sbc (.loc (.reg .e)) s

/-- `SBC A,H` (R157). -/
def execSbc_A_H (s : State) : Result := aluOp .sbc (.loc (.reg .h)) s

/-- `SBC A,L` (R157). -/
def execSbc_A_L (s : State) : Result := aluOp .sbc (.loc (.reg .l)) s

/-- `SBC A,(HL)` (R157). -/
def execSbc_A_atHL (s : State) : Result := aluOp .sbc (.loc .atHL) s

/-- `SBC A,A` (R157). -/
def execSbc_A_A (s : State) : Result := aluOp .sbc (.loc (.reg .a)) s

/-- `AND B` (R158). -/
def execAnd_B (s : State) : Result := aluOp .and (.loc (.reg .b)) s

/-- `AND C` (R158). -/
def execAnd_C (s : State) : Result := aluOp .and (.loc (.reg .c)) s

/-- `AND D` (R158). -/
def execAnd_D (s : State) : Result := aluOp .and (.loc (.reg .d)) s

/-- `AND E` (R158). -/
def execAnd_E (s : State) : Result := aluOp .and (.loc (.reg .e)) s

/-- `AND H` (R158). -/
def execAnd_H (s : State) : Result := aluOp .and (.loc (.reg .h)) s

/-- `AND L` (R158). -/
def execAnd_L (s : State) : Result := aluOp .and (.loc (.reg .l)) s

/-- `AND (HL)` (R158). -/
def execAnd_atHL (s : State) : Result := aluOp .and (.loc .atHL) s

/-- `AND A` (R158). -/
def execAnd_A (s : State) : Result := aluOp .and (.loc (.reg .a)) s

/-- `XOR B` (R151). -/
def execXor_B (s : State) : Result := aluOp .xor (.loc (.reg .b)) s

/-- `XOR C` (R151). -/
def execXor_C (s : State) : Result := aluOp .xor (.loc (.reg .c)) s

/-- `XOR D` (R151). -/
def execXor_D (s : State) : Result := aluOp .xor (.loc (.reg .d)) s

/-- `XOR E` (R151). -/
def execXor_E (s : State) : Result := aluOp .xor (.loc (.reg .e)) s

/-- `XOR H` (R151). -/
def execXor_H (s : State) : Result := aluOp .xor (.loc (.reg .h)) s

/-- `XOR L` (R151). -/
def execXor_L (s : State) : Result := aluOp .xor (.loc (.reg .l)) s

/-- `XOR (HL)` (R151). -/
def execXor_atHL (s : State) : Result := aluOp .xor (.loc .atHL) s

/-- `XOR A` (R151). -/
def execXor_A (s : State) : Result := aluOp .xor (.loc (.reg .a)) s

/-- `OR B` (R159). -/
def execOr_B (s : State) : Result := aluOp .or (.loc (.reg .b)) s

/-- `OR C` (R159). -/
def execOr_C (s : State) : Result := aluOp .or (.loc (.reg .c)) s

/-- `OR D` (R159). -/
def execOr_D (s : State) : Result := aluOp .or (.loc (.reg .d)) s

/-- `OR E` (R159). -/
def execOr_E (s : State) : Result := aluOp .or (.loc (.reg .e)) s

/-- `OR H` (R159). -/
def execOr_H (s : State) : Result := aluOp .or (.loc (.reg .h)) s

/-- `OR L` (R159). -/
def execOr_L (s : State) : Result := aluOp .or (.loc (.reg .l)) s

/-- `OR (HL)` (R159). -/
def execOr_atHL (s : State) : Result := aluOp .or (.loc .atHL) s

/-- `OR A` (R159). -/
def execOr_A (s : State) : Result := aluOp .or (.loc (.reg .a)) s

/-- `CP B` (R160). -/
def execCp_B (s : State) : Result := aluOp .cp (.loc (.reg .b)) s

/-- `CP C` (R160). -/
def execCp_C (s : State) : Result := aluOp .cp (.loc (.reg .c)) s

/-- `CP D` (R160). -/
def execCp_D (s : State) : Result := aluOp .cp (.loc (.reg .d)) s

/-- `CP E` (R160). -/
def execCp_E (s : State) : Result := aluOp .cp (.loc (.reg .e)) s

/-- `CP H` (R160). -/
def execCp_H (s : State) : Result := aluOp .cp (.loc (.reg .h)) s

/-- `CP L` (R160). -/
def execCp_L (s : State) : Result := aluOp .cp (.loc (.reg .l)) s

/-- `CP (HL)` (R160). -/
def execCp_atHL (s : State) : Result := aluOp .cp (.loc .atHL) s

/-- `CP A` (R160). -/
def execCp_A (s : State) : Result := aluOp .cp (.loc (.reg .a)) s

/-- `ADD A,n` (R154). -/
def execAdd_A_n (n : Byte) (s : State) : Result := aluOp .add (.imm n) s

/-- `ADC A,n` (R155). -/
def execAdc_A_n (n : Byte) (s : State) : Result := aluOp .adc (.imm n) s

/-- `SUB n` (R156). -/
def execSub_n (n : Byte) (s : State) : Result := aluOp .sub (.imm n) s

/-- `SBC A,n` (R157). -/
def execSbc_A_n (n : Byte) (s : State) : Result := aluOp .sbc (.imm n) s

/-- `AND n` (R158). -/
def execAnd_n (n : Byte) (s : State) : Result := aluOp .and (.imm n) s

/-- `XOR n` (R151). -/
def execXor_n (n : Byte) (s : State) : Result := aluOp .xor (.imm n) s

/-- `OR n` (R159). -/
def execOr_n (n : Byte) (s : State) : Result := aluOp .or (.imm n) s

/-- `CP n` (R160). -/
def execCp_n (n : Byte) (s : State) : Result := aluOp .cp (.imm n) s

end Sys2Proof.Machine
end

