-- ==== Sys2Proof/Machine/BitRotate.lean ====
section
/-! DEFINITION. Bit test, rotates, shifts, bit reset and set (`44_bit_rotate.md`). -/

namespace Sys2Proof.Machine

/-! ### Shared operations -/

/-- R181, R182, R186 to R191: `r[z]` rotated or shifted. -/
def rotateLoc (op : RotOp) (o : Loc8) (s : State) : Result :=
  let out := rotate8 op (s.loc o) s.carry
  .next (((s.setLoc o out.1).withFlags (rotateFlags s.config.rotFlags op out.1 out.2)).advance 2)

/-- R183, R184, R194, R195: `A` rotated. -/
def rotateA (op : RotAOp) (s : State) : Result :=
  let out := rotate8 (rotAOp op) s.a s.carry
  .next (((s.setReg .a out.1).withFlags (rotateAFlags s.config.rotFlags op out.2)).advance 1)

/-- R185: Z is the inverse of the tested bit, C unchanged. -/
def testBit (y : Fin 8) (o : Loc8) (s : State) : Result :=
  .next ((s.withFlags { z := some (!(s.loc o).getLsbD y.val), n := some false, h := some true }).advance 2)

/-- R192. -/
def resetBit (y : Fin 8) (o : Loc8) (s : State) : Result :=
  .next ((s.setLoc o (s.loc o &&& ~~~(1#8 <<< y.val))).advance 2)

/-- R193. -/
def setBit (y : Fin 8) (o : Loc8) (s : State) : Result :=
  .next ((s.setLoc o (s.loc o ||| (1#8 <<< y.val))).advance 2)

/-- The instruction behind the escape byte, by the fields of its opcode byte (R76, R180). -/
def runCB (op : Byte) (s : State) : Result :=
  let g := fields op
  let o := Loc8.ofCode g.z
  match g.x.toNat with
  | 0 => rotateLoc (RotOp.ofCode g.y) o s
  | 1 => testBit g.y.toFin o s
  | 2 => resetBit g.y.toFin o s
  | _ => setBit g.y.toFin o s

/-! ### The instructions -/

/-- `RLCA` (R183). -/
def execRlca (s : State) : Result := rotateA .rlca s

/-- `RRCA` (R194). -/
def execRrca (s : State) : Result := rotateA .rrca s

/-- `RLA` (R184). -/
def execRla (s : State) : Result := rotateA .rla s

/-- `RRA` (R195). -/
def execRra (s : State) : Result := rotateA .rra s

/-- `RLC B` (R181). -/
def execRlc_B (s : State) : Result := rotateLoc .rlc (.reg .b) s

/-- `RLC C` (R181). -/
def execRlc_C (s : State) : Result := rotateLoc .rlc (.reg .c) s

/-- `RLC D` (R181). -/
def execRlc_D (s : State) : Result := rotateLoc .rlc (.reg .d) s

/-- `RLC E` (R181). -/
def execRlc_E (s : State) : Result := rotateLoc .rlc (.reg .e) s

/-- `RLC H` (R181). -/
def execRlc_H (s : State) : Result := rotateLoc .rlc (.reg .h) s

/-- `RLC L` (R181). -/
def execRlc_L (s : State) : Result := rotateLoc .rlc (.reg .l) s

/-- `RLC (HL)` (R181). -/
def execRlc_atHL (s : State) : Result := rotateLoc .rlc .atHL s

/-- `RLC A` (R181). -/
def execRlc_A (s : State) : Result := rotateLoc .rlc (.reg .a) s

/-- `RRC B` (R186). -/
def execRrc_B (s : State) : Result := rotateLoc .rrc (.reg .b) s

/-- `RRC C` (R186). -/
def execRrc_C (s : State) : Result := rotateLoc .rrc (.reg .c) s

/-- `RRC D` (R186). -/
def execRrc_D (s : State) : Result := rotateLoc .rrc (.reg .d) s

/-- `RRC E` (R186). -/
def execRrc_E (s : State) : Result := rotateLoc .rrc (.reg .e) s

/-- `RRC H` (R186). -/
def execRrc_H (s : State) : Result := rotateLoc .rrc (.reg .h) s

/-- `RRC L` (R186). -/
def execRrc_L (s : State) : Result := rotateLoc .rrc (.reg .l) s

/-- `RRC (HL)` (R186). -/
def execRrc_atHL (s : State) : Result := rotateLoc .rrc .atHL s

/-- `RRC A` (R186). -/
def execRrc_A (s : State) : Result := rotateLoc .rrc (.reg .a) s

/-- `RL B` (R182). -/
def execRl_B (s : State) : Result := rotateLoc .rl (.reg .b) s

/-- `RL C` (R182). -/
def execRl_C (s : State) : Result := rotateLoc .rl (.reg .c) s

/-- `RL D` (R182). -/
def execRl_D (s : State) : Result := rotateLoc .rl (.reg .d) s

/-- `RL E` (R182). -/
def execRl_E (s : State) : Result := rotateLoc .rl (.reg .e) s

/-- `RL H` (R182). -/
def execRl_H (s : State) : Result := rotateLoc .rl (.reg .h) s

/-- `RL L` (R182). -/
def execRl_L (s : State) : Result := rotateLoc .rl (.reg .l) s

/-- `RL (HL)` (R182). -/
def execRl_atHL (s : State) : Result := rotateLoc .rl .atHL s

/-- `RL A` (R182). -/
def execRl_A (s : State) : Result := rotateLoc .rl (.reg .a) s

/-- `RR B` (R187). -/
def execRr_B (s : State) : Result := rotateLoc .rr (.reg .b) s

/-- `RR C` (R187). -/
def execRr_C (s : State) : Result := rotateLoc .rr (.reg .c) s

/-- `RR D` (R187). -/
def execRr_D (s : State) : Result := rotateLoc .rr (.reg .d) s

/-- `RR E` (R187). -/
def execRr_E (s : State) : Result := rotateLoc .rr (.reg .e) s

/-- `RR H` (R187). -/
def execRr_H (s : State) : Result := rotateLoc .rr (.reg .h) s

/-- `RR L` (R187). -/
def execRr_L (s : State) : Result := rotateLoc .rr (.reg .l) s

/-- `RR (HL)` (R187). -/
def execRr_atHL (s : State) : Result := rotateLoc .rr .atHL s

/-- `RR A` (R187). -/
def execRr_A (s : State) : Result := rotateLoc .rr (.reg .a) s

/-- `SLA B` (R188). -/
def execSla_B (s : State) : Result := rotateLoc .sla (.reg .b) s

/-- `SLA C` (R188). -/
def execSla_C (s : State) : Result := rotateLoc .sla (.reg .c) s

/-- `SLA D` (R188). -/
def execSla_D (s : State) : Result := rotateLoc .sla (.reg .d) s

/-- `SLA E` (R188). -/
def execSla_E (s : State) : Result := rotateLoc .sla (.reg .e) s

/-- `SLA H` (R188). -/
def execSla_H (s : State) : Result := rotateLoc .sla (.reg .h) s

/-- `SLA L` (R188). -/
def execSla_L (s : State) : Result := rotateLoc .sla (.reg .l) s

/-- `SLA (HL)` (R188). -/
def execSla_atHL (s : State) : Result := rotateLoc .sla .atHL s

/-- `SLA A` (R188). -/
def execSla_A (s : State) : Result := rotateLoc .sla (.reg .a) s

/-- `SRA B` (R189). -/
def execSra_B (s : State) : Result := rotateLoc .sra (.reg .b) s

/-- `SRA C` (R189). -/
def execSra_C (s : State) : Result := rotateLoc .sra (.reg .c) s

/-- `SRA D` (R189). -/
def execSra_D (s : State) : Result := rotateLoc .sra (.reg .d) s

/-- `SRA E` (R189). -/
def execSra_E (s : State) : Result := rotateLoc .sra (.reg .e) s

/-- `SRA H` (R189). -/
def execSra_H (s : State) : Result := rotateLoc .sra (.reg .h) s

/-- `SRA L` (R189). -/
def execSra_L (s : State) : Result := rotateLoc .sra (.reg .l) s

/-- `SRA (HL)` (R189). -/
def execSra_atHL (s : State) : Result := rotateLoc .sra .atHL s

/-- `SRA A` (R189). -/
def execSra_A (s : State) : Result := rotateLoc .sra (.reg .a) s

/-- `SWAP B` (R190). -/
def execSwap_B (s : State) : Result := rotateLoc .swap (.reg .b) s

/-- `SWAP C` (R190). -/
def execSwap_C (s : State) : Result := rotateLoc .swap (.reg .c) s

/-- `SWAP D` (R190). -/
def execSwap_D (s : State) : Result := rotateLoc .swap (.reg .d) s

/-- `SWAP E` (R190). -/
def execSwap_E (s : State) : Result := rotateLoc .swap (.reg .e) s

/-- `SWAP H` (R190). -/
def execSwap_H (s : State) : Result := rotateLoc .swap (.reg .h) s

/-- `SWAP L` (R190). -/
def execSwap_L (s : State) : Result := rotateLoc .swap (.reg .l) s

/-- `SWAP (HL)` (R190). -/
def execSwap_atHL (s : State) : Result := rotateLoc .swap .atHL s

/-- `SWAP A` (R190). -/
def execSwap_A (s : State) : Result := rotateLoc .swap (.reg .a) s

/-- `SRL B` (R191). -/
def execSrl_B (s : State) : Result := rotateLoc .srl (.reg .b) s

/-- `SRL C` (R191). -/
def execSrl_C (s : State) : Result := rotateLoc .srl (.reg .c) s

/-- `SRL D` (R191). -/
def execSrl_D (s : State) : Result := rotateLoc .srl (.reg .d) s

/-- `SRL E` (R191). -/
def execSrl_E (s : State) : Result := rotateLoc .srl (.reg .e) s

/-- `SRL H` (R191). -/
def execSrl_H (s : State) : Result := rotateLoc .srl (.reg .h) s

/-- `SRL L` (R191). -/
def execSrl_L (s : State) : Result := rotateLoc .srl (.reg .l) s

/-- `SRL (HL)` (R191). -/
def execSrl_atHL (s : State) : Result := rotateLoc .srl .atHL s

/-- `SRL A` (R191). -/
def execSrl_A (s : State) : Result := rotateLoc .srl (.reg .a) s

/-- `BIT 0,B` (R185). -/
def execBit_0_B (s : State) : Result := testBit 0 (.reg .b) s

/-- `BIT 0,C` (R185). -/
def execBit_0_C (s : State) : Result := testBit 0 (.reg .c) s

/-- `BIT 0,D` (R185). -/
def execBit_0_D (s : State) : Result := testBit 0 (.reg .d) s

/-- `BIT 0,E` (R185). -/
def execBit_0_E (s : State) : Result := testBit 0 (.reg .e) s

/-- `BIT 0,H` (R185). -/
def execBit_0_H (s : State) : Result := testBit 0 (.reg .h) s

/-- `BIT 0,L` (R185). -/
def execBit_0_L (s : State) : Result := testBit 0 (.reg .l) s

/-- `BIT 0,(HL)` (R185). -/
def execBit_0_atHL (s : State) : Result := testBit 0 .atHL s

/-- `BIT 0,A` (R185). -/
def execBit_0_A (s : State) : Result := testBit 0 (.reg .a) s

/-- `BIT 1,B` (R185). -/
def execBit_1_B (s : State) : Result := testBit 1 (.reg .b) s

/-- `BIT 1,C` (R185). -/
def execBit_1_C (s : State) : Result := testBit 1 (.reg .c) s

/-- `BIT 1,D` (R185). -/
def execBit_1_D (s : State) : Result := testBit 1 (.reg .d) s

/-- `BIT 1,E` (R185). -/
def execBit_1_E (s : State) : Result := testBit 1 (.reg .e) s

/-- `BIT 1,H` (R185). -/
def execBit_1_H (s : State) : Result := testBit 1 (.reg .h) s

/-- `BIT 1,L` (R185). -/
def execBit_1_L (s : State) : Result := testBit 1 (.reg .l) s

/-- `BIT 1,(HL)` (R185). -/
def execBit_1_atHL (s : State) : Result := testBit 1 .atHL s

/-- `BIT 1,A` (R185). -/
def execBit_1_A (s : State) : Result := testBit 1 (.reg .a) s

/-- `BIT 2,B` (R185). -/
def execBit_2_B (s : State) : Result := testBit 2 (.reg .b) s

/-- `BIT 2,C` (R185). -/
def execBit_2_C (s : State) : Result := testBit 2 (.reg .c) s

/-- `BIT 2,D` (R185). -/
def execBit_2_D (s : State) : Result := testBit 2 (.reg .d) s

/-- `BIT 2,E` (R185). -/
def execBit_2_E (s : State) : Result := testBit 2 (.reg .e) s

/-- `BIT 2,H` (R185). -/
def execBit_2_H (s : State) : Result := testBit 2 (.reg .h) s

/-- `BIT 2,L` (R185). -/
def execBit_2_L (s : State) : Result := testBit 2 (.reg .l) s

/-- `BIT 2,(HL)` (R185). -/
def execBit_2_atHL (s : State) : Result := testBit 2 .atHL s

/-- `BIT 2,A` (R185). -/
def execBit_2_A (s : State) : Result := testBit 2 (.reg .a) s

/-- `BIT 3,B` (R185). -/
def execBit_3_B (s : State) : Result := testBit 3 (.reg .b) s

/-- `BIT 3,C` (R185). -/
def execBit_3_C (s : State) : Result := testBit 3 (.reg .c) s

/-- `BIT 3,D` (R185). -/
def execBit_3_D (s : State) : Result := testBit 3 (.reg .d) s

/-- `BIT 3,E` (R185). -/
def execBit_3_E (s : State) : Result := testBit 3 (.reg .e) s

/-- `BIT 3,H` (R185). -/
def execBit_3_H (s : State) : Result := testBit 3 (.reg .h) s

/-- `BIT 3,L` (R185). -/
def execBit_3_L (s : State) : Result := testBit 3 (.reg .l) s

/-- `BIT 3,(HL)` (R185). -/
def execBit_3_atHL (s : State) : Result := testBit 3 .atHL s

/-- `BIT 3,A` (R185). -/
def execBit_3_A (s : State) : Result := testBit 3 (.reg .a) s

/-- `BIT 4,B` (R185). -/
def execBit_4_B (s : State) : Result := testBit 4 (.reg .b) s

/-- `BIT 4,C` (R185). -/
def execBit_4_C (s : State) : Result := testBit 4 (.reg .c) s

/-- `BIT 4,D` (R185). -/
def execBit_4_D (s : State) : Result := testBit 4 (.reg .d) s

/-- `BIT 4,E` (R185). -/
def execBit_4_E (s : State) : Result := testBit 4 (.reg .e) s

/-- `BIT 4,H` (R185). -/
def execBit_4_H (s : State) : Result := testBit 4 (.reg .h) s

/-- `BIT 4,L` (R185). -/
def execBit_4_L (s : State) : Result := testBit 4 (.reg .l) s

/-- `BIT 4,(HL)` (R185). -/
def execBit_4_atHL (s : State) : Result := testBit 4 .atHL s

/-- `BIT 4,A` (R185). -/
def execBit_4_A (s : State) : Result := testBit 4 (.reg .a) s

/-- `BIT 5,B` (R185). -/
def execBit_5_B (s : State) : Result := testBit 5 (.reg .b) s

/-- `BIT 5,C` (R185). -/
def execBit_5_C (s : State) : Result := testBit 5 (.reg .c) s

/-- `BIT 5,D` (R185). -/
def execBit_5_D (s : State) : Result := testBit 5 (.reg .d) s

/-- `BIT 5,E` (R185). -/
def execBit_5_E (s : State) : Result := testBit 5 (.reg .e) s

/-- `BIT 5,H` (R185). -/
def execBit_5_H (s : State) : Result := testBit 5 (.reg .h) s

/-- `BIT 5,L` (R185). -/
def execBit_5_L (s : State) : Result := testBit 5 (.reg .l) s

/-- `BIT 5,(HL)` (R185). -/
def execBit_5_atHL (s : State) : Result := testBit 5 .atHL s

/-- `BIT 5,A` (R185). -/
def execBit_5_A (s : State) : Result := testBit 5 (.reg .a) s

/-- `BIT 6,B` (R185). -/
def execBit_6_B (s : State) : Result := testBit 6 (.reg .b) s

/-- `BIT 6,C` (R185). -/
def execBit_6_C (s : State) : Result := testBit 6 (.reg .c) s

/-- `BIT 6,D` (R185). -/
def execBit_6_D (s : State) : Result := testBit 6 (.reg .d) s

/-- `BIT 6,E` (R185). -/
def execBit_6_E (s : State) : Result := testBit 6 (.reg .e) s

/-- `BIT 6,H` (R185). -/
def execBit_6_H (s : State) : Result := testBit 6 (.reg .h) s

/-- `BIT 6,L` (R185). -/
def execBit_6_L (s : State) : Result := testBit 6 (.reg .l) s

/-- `BIT 6,(HL)` (R185). -/
def execBit_6_atHL (s : State) : Result := testBit 6 .atHL s

/-- `BIT 6,A` (R185). -/
def execBit_6_A (s : State) : Result := testBit 6 (.reg .a) s

/-- `BIT 7,B` (R185). -/
def execBit_7_B (s : State) : Result := testBit 7 (.reg .b) s

/-- `BIT 7,C` (R185). -/
def execBit_7_C (s : State) : Result := testBit 7 (.reg .c) s

/-- `BIT 7,D` (R185). -/
def execBit_7_D (s : State) : Result := testBit 7 (.reg .d) s

/-- `BIT 7,E` (R185). -/
def execBit_7_E (s : State) : Result := testBit 7 (.reg .e) s

/-- `BIT 7,H` (R185). -/
def execBit_7_H (s : State) : Result := testBit 7 (.reg .h) s

/-- `BIT 7,L` (R185). -/
def execBit_7_L (s : State) : Result := testBit 7 (.reg .l) s

/-- `BIT 7,(HL)` (R185). -/
def execBit_7_atHL (s : State) : Result := testBit 7 .atHL s

/-- `BIT 7,A` (R185). -/
def execBit_7_A (s : State) : Result := testBit 7 (.reg .a) s

/-- `RES 0,B` (R192). -/
def execRes_0_B (s : State) : Result := resetBit 0 (.reg .b) s

/-- `RES 0,C` (R192). -/
def execRes_0_C (s : State) : Result := resetBit 0 (.reg .c) s

/-- `RES 0,D` (R192). -/
def execRes_0_D (s : State) : Result := resetBit 0 (.reg .d) s

/-- `RES 0,E` (R192). -/
def execRes_0_E (s : State) : Result := resetBit 0 (.reg .e) s

/-- `RES 0,H` (R192). -/
def execRes_0_H (s : State) : Result := resetBit 0 (.reg .h) s

/-- `RES 0,L` (R192). -/
def execRes_0_L (s : State) : Result := resetBit 0 (.reg .l) s

/-- `RES 0,(HL)` (R192). -/
def execRes_0_atHL (s : State) : Result := resetBit 0 .atHL s

/-- `RES 0,A` (R192). -/
def execRes_0_A (s : State) : Result := resetBit 0 (.reg .a) s

/-- `RES 1,B` (R192). -/
def execRes_1_B (s : State) : Result := resetBit 1 (.reg .b) s

/-- `RES 1,C` (R192). -/
def execRes_1_C (s : State) : Result := resetBit 1 (.reg .c) s

/-- `RES 1,D` (R192). -/
def execRes_1_D (s : State) : Result := resetBit 1 (.reg .d) s

/-- `RES 1,E` (R192). -/
def execRes_1_E (s : State) : Result := resetBit 1 (.reg .e) s

/-- `RES 1,H` (R192). -/
def execRes_1_H (s : State) : Result := resetBit 1 (.reg .h) s

/-- `RES 1,L` (R192). -/
def execRes_1_L (s : State) : Result := resetBit 1 (.reg .l) s

/-- `RES 1,(HL)` (R192). -/
def execRes_1_atHL (s : State) : Result := resetBit 1 .atHL s

/-- `RES 1,A` (R192). -/
def execRes_1_A (s : State) : Result := resetBit 1 (.reg .a) s

/-- `RES 2,B` (R192). -/
def execRes_2_B (s : State) : Result := resetBit 2 (.reg .b) s

/-- `RES 2,C` (R192). -/
def execRes_2_C (s : State) : Result := resetBit 2 (.reg .c) s

/-- `RES 2,D` (R192). -/
def execRes_2_D (s : State) : Result := resetBit 2 (.reg .d) s

/-- `RES 2,E` (R192). -/
def execRes_2_E (s : State) : Result := resetBit 2 (.reg .e) s

/-- `RES 2,H` (R192). -/
def execRes_2_H (s : State) : Result := resetBit 2 (.reg .h) s

/-- `RES 2,L` (R192). -/
def execRes_2_L (s : State) : Result := resetBit 2 (.reg .l) s

/-- `RES 2,(HL)` (R192). -/
def execRes_2_atHL (s : State) : Result := resetBit 2 .atHL s

/-- `RES 2,A` (R192). -/
def execRes_2_A (s : State) : Result := resetBit 2 (.reg .a) s

/-- `RES 3,B` (R192). -/
def execRes_3_B (s : State) : Result := resetBit 3 (.reg .b) s

/-- `RES 3,C` (R192). -/
def execRes_3_C (s : State) : Result := resetBit 3 (.reg .c) s

/-- `RES 3,D` (R192). -/
def execRes_3_D (s : State) : Result := resetBit 3 (.reg .d) s

/-- `RES 3,E` (R192). -/
def execRes_3_E (s : State) : Result := resetBit 3 (.reg .e) s

/-- `RES 3,H` (R192). -/
def execRes_3_H (s : State) : Result := resetBit 3 (.reg .h) s

/-- `RES 3,L` (R192). -/
def execRes_3_L (s : State) : Result := resetBit 3 (.reg .l) s

/-- `RES 3,(HL)` (R192). -/
def execRes_3_atHL (s : State) : Result := resetBit 3 .atHL s

/-- `RES 3,A` (R192). -/
def execRes_3_A (s : State) : Result := resetBit 3 (.reg .a) s

/-- `RES 4,B` (R192). -/
def execRes_4_B (s : State) : Result := resetBit 4 (.reg .b) s

/-- `RES 4,C` (R192). -/
def execRes_4_C (s : State) : Result := resetBit 4 (.reg .c) s

/-- `RES 4,D` (R192). -/
def execRes_4_D (s : State) : Result := resetBit 4 (.reg .d) s

/-- `RES 4,E` (R192). -/
def execRes_4_E (s : State) : Result := resetBit 4 (.reg .e) s

/-- `RES 4,H` (R192). -/
def execRes_4_H (s : State) : Result := resetBit 4 (.reg .h) s

/-- `RES 4,L` (R192). -/
def execRes_4_L (s : State) : Result := resetBit 4 (.reg .l) s

/-- `RES 4,(HL)` (R192). -/
def execRes_4_atHL (s : State) : Result := resetBit 4 .atHL s

/-- `RES 4,A` (R192). -/
def execRes_4_A (s : State) : Result := resetBit 4 (.reg .a) s

/-- `RES 5,B` (R192). -/
def execRes_5_B (s : State) : Result := resetBit 5 (.reg .b) s

/-- `RES 5,C` (R192). -/
def execRes_5_C (s : State) : Result := resetBit 5 (.reg .c) s

/-- `RES 5,D` (R192). -/
def execRes_5_D (s : State) : Result := resetBit 5 (.reg .d) s

/-- `RES 5,E` (R192). -/
def execRes_5_E (s : State) : Result := resetBit 5 (.reg .e) s

/-- `RES 5,H` (R192). -/
def execRes_5_H (s : State) : Result := resetBit 5 (.reg .h) s

/-- `RES 5,L` (R192). -/
def execRes_5_L (s : State) : Result := resetBit 5 (.reg .l) s

/-- `RES 5,(HL)` (R192). -/
def execRes_5_atHL (s : State) : Result := resetBit 5 .atHL s

/-- `RES 5,A` (R192). -/
def execRes_5_A (s : State) : Result := resetBit 5 (.reg .a) s

/-- `RES 6,B` (R192). -/
def execRes_6_B (s : State) : Result := resetBit 6 (.reg .b) s

/-- `RES 6,C` (R192). -/
def execRes_6_C (s : State) : Result := resetBit 6 (.reg .c) s

/-- `RES 6,D` (R192). -/
def execRes_6_D (s : State) : Result := resetBit 6 (.reg .d) s

/-- `RES 6,E` (R192). -/
def execRes_6_E (s : State) : Result := resetBit 6 (.reg .e) s

/-- `RES 6,H` (R192). -/
def execRes_6_H (s : State) : Result := resetBit 6 (.reg .h) s

/-- `RES 6,L` (R192). -/
def execRes_6_L (s : State) : Result := resetBit 6 (.reg .l) s

/-- `RES 6,(HL)` (R192). -/
def execRes_6_atHL (s : State) : Result := resetBit 6 .atHL s

/-- `RES 6,A` (R192). -/
def execRes_6_A (s : State) : Result := resetBit 6 (.reg .a) s

/-- `RES 7,B` (R192). -/
def execRes_7_B (s : State) : Result := resetBit 7 (.reg .b) s

/-- `RES 7,C` (R192). -/
def execRes_7_C (s : State) : Result := resetBit 7 (.reg .c) s

/-- `RES 7,D` (R192). -/
def execRes_7_D (s : State) : Result := resetBit 7 (.reg .d) s

/-- `RES 7,E` (R192). -/
def execRes_7_E (s : State) : Result := resetBit 7 (.reg .e) s

/-- `RES 7,H` (R192). -/
def execRes_7_H (s : State) : Result := resetBit 7 (.reg .h) s

/-- `RES 7,L` (R192). -/
def execRes_7_L (s : State) : Result := resetBit 7 (.reg .l) s

/-- `RES 7,(HL)` (R192). -/
def execRes_7_atHL (s : State) : Result := resetBit 7 .atHL s

/-- `RES 7,A` (R192). -/
def execRes_7_A (s : State) : Result := resetBit 7 (.reg .a) s

/-- `SET 0,B` (R193). -/
def execSet_0_B (s : State) : Result := setBit 0 (.reg .b) s

/-- `SET 0,C` (R193). -/
def execSet_0_C (s : State) : Result := setBit 0 (.reg .c) s

/-- `SET 0,D` (R193). -/
def execSet_0_D (s : State) : Result := setBit 0 (.reg .d) s

/-- `SET 0,E` (R193). -/
def execSet_0_E (s : State) : Result := setBit 0 (.reg .e) s

/-- `SET 0,H` (R193). -/
def execSet_0_H (s : State) : Result := setBit 0 (.reg .h) s

/-- `SET 0,L` (R193). -/
def execSet_0_L (s : State) : Result := setBit 0 (.reg .l) s

/-- `SET 0,(HL)` (R193). -/
def execSet_0_atHL (s : State) : Result := setBit 0 .atHL s

/-- `SET 0,A` (R193). -/
def execSet_0_A (s : State) : Result := setBit 0 (.reg .a) s

/-- `SET 1,B` (R193). -/
def execSet_1_B (s : State) : Result := setBit 1 (.reg .b) s

/-- `SET 1,C` (R193). -/
def execSet_1_C (s : State) : Result := setBit 1 (.reg .c) s

/-- `SET 1,D` (R193). -/
def execSet_1_D (s : State) : Result := setBit 1 (.reg .d) s

/-- `SET 1,E` (R193). -/
def execSet_1_E (s : State) : Result := setBit 1 (.reg .e) s

/-- `SET 1,H` (R193). -/
def execSet_1_H (s : State) : Result := setBit 1 (.reg .h) s

/-- `SET 1,L` (R193). -/
def execSet_1_L (s : State) : Result := setBit 1 (.reg .l) s

/-- `SET 1,(HL)` (R193). -/
def execSet_1_atHL (s : State) : Result := setBit 1 .atHL s

/-- `SET 1,A` (R193). -/
def execSet_1_A (s : State) : Result := setBit 1 (.reg .a) s

/-- `SET 2,B` (R193). -/
def execSet_2_B (s : State) : Result := setBit 2 (.reg .b) s

/-- `SET 2,C` (R193). -/
def execSet_2_C (s : State) : Result := setBit 2 (.reg .c) s

/-- `SET 2,D` (R193). -/
def execSet_2_D (s : State) : Result := setBit 2 (.reg .d) s

/-- `SET 2,E` (R193). -/
def execSet_2_E (s : State) : Result := setBit 2 (.reg .e) s

/-- `SET 2,H` (R193). -/
def execSet_2_H (s : State) : Result := setBit 2 (.reg .h) s

/-- `SET 2,L` (R193). -/
def execSet_2_L (s : State) : Result := setBit 2 (.reg .l) s

/-- `SET 2,(HL)` (R193). -/
def execSet_2_atHL (s : State) : Result := setBit 2 .atHL s

/-- `SET 2,A` (R193). -/
def execSet_2_A (s : State) : Result := setBit 2 (.reg .a) s

/-- `SET 3,B` (R193). -/
def execSet_3_B (s : State) : Result := setBit 3 (.reg .b) s

/-- `SET 3,C` (R193). -/
def execSet_3_C (s : State) : Result := setBit 3 (.reg .c) s

/-- `SET 3,D` (R193). -/
def execSet_3_D (s : State) : Result := setBit 3 (.reg .d) s

/-- `SET 3,E` (R193). -/
def execSet_3_E (s : State) : Result := setBit 3 (.reg .e) s

/-- `SET 3,H` (R193). -/
def execSet_3_H (s : State) : Result := setBit 3 (.reg .h) s

/-- `SET 3,L` (R193). -/
def execSet_3_L (s : State) : Result := setBit 3 (.reg .l) s

/-- `SET 3,(HL)` (R193). -/
def execSet_3_atHL (s : State) : Result := setBit 3 .atHL s

/-- `SET 3,A` (R193). -/
def execSet_3_A (s : State) : Result := setBit 3 (.reg .a) s

/-- `SET 4,B` (R193). -/
def execSet_4_B (s : State) : Result := setBit 4 (.reg .b) s

/-- `SET 4,C` (R193). -/
def execSet_4_C (s : State) : Result := setBit 4 (.reg .c) s

/-- `SET 4,D` (R193). -/
def execSet_4_D (s : State) : Result := setBit 4 (.reg .d) s

/-- `SET 4,E` (R193). -/
def execSet_4_E (s : State) : Result := setBit 4 (.reg .e) s

/-- `SET 4,H` (R193). -/
def execSet_4_H (s : State) : Result := setBit 4 (.reg .h) s

/-- `SET 4,L` (R193). -/
def execSet_4_L (s : State) : Result := setBit 4 (.reg .l) s

/-- `SET 4,(HL)` (R193). -/
def execSet_4_atHL (s : State) : Result := setBit 4 .atHL s

/-- `SET 4,A` (R193). -/
def execSet_4_A (s : State) : Result := setBit 4 (.reg .a) s

/-- `SET 5,B` (R193). -/
def execSet_5_B (s : State) : Result := setBit 5 (.reg .b) s

/-- `SET 5,C` (R193). -/
def execSet_5_C (s : State) : Result := setBit 5 (.reg .c) s

/-- `SET 5,D` (R193). -/
def execSet_5_D (s : State) : Result := setBit 5 (.reg .d) s

/-- `SET 5,E` (R193). -/
def execSet_5_E (s : State) : Result := setBit 5 (.reg .e) s

/-- `SET 5,H` (R193). -/
def execSet_5_H (s : State) : Result := setBit 5 (.reg .h) s

/-- `SET 5,L` (R193). -/
def execSet_5_L (s : State) : Result := setBit 5 (.reg .l) s

/-- `SET 5,(HL)` (R193). -/
def execSet_5_atHL (s : State) : Result := setBit 5 .atHL s

/-- `SET 5,A` (R193). -/
def execSet_5_A (s : State) : Result := setBit 5 (.reg .a) s

/-- `SET 6,B` (R193). -/
def execSet_6_B (s : State) : Result := setBit 6 (.reg .b) s

/-- `SET 6,C` (R193). -/
def execSet_6_C (s : State) : Result := setBit 6 (.reg .c) s

/-- `SET 6,D` (R193). -/
def execSet_6_D (s : State) : Result := setBit 6 (.reg .d) s

/-- `SET 6,E` (R193). -/
def execSet_6_E (s : State) : Result := setBit 6 (.reg .e) s

/-- `SET 6,H` (R193). -/
def execSet_6_H (s : State) : Result := setBit 6 (.reg .h) s

/-- `SET 6,L` (R193). -/
def execSet_6_L (s : State) : Result := setBit 6 (.reg .l) s

/-- `SET 6,(HL)` (R193). -/
def execSet_6_atHL (s : State) : Result := setBit 6 .atHL s

/-- `SET 6,A` (R193). -/
def execSet_6_A (s : State) : Result := setBit 6 (.reg .a) s

/-- `SET 7,B` (R193). -/
def execSet_7_B (s : State) : Result := setBit 7 (.reg .b) s

/-- `SET 7,C` (R193). -/
def execSet_7_C (s : State) : Result := setBit 7 (.reg .c) s

/-- `SET 7,D` (R193). -/
def execSet_7_D (s : State) : Result := setBit 7 (.reg .d) s

/-- `SET 7,E` (R193). -/
def execSet_7_E (s : State) : Result := setBit 7 (.reg .e) s

/-- `SET 7,H` (R193). -/
def execSet_7_H (s : State) : Result := setBit 7 (.reg .h) s

/-- `SET 7,L` (R193). -/
def execSet_7_L (s : State) : Result := setBit 7 (.reg .l) s

/-- `SET 7,(HL)` (R193). -/
def execSet_7_atHL (s : State) : Result := setBit 7 .atHL s

/-- `SET 7,A` (R193). -/
def execSet_7_A (s : State) : Result := setBit 7 (.reg .a) s

end Sys2Proof.Machine
end

