-- ==== Sys2Proof/Machine/IncDec.lean ====
section
/-! DEFINITION. Increment and decrement (`42_incdec.md`): the 8-bit forms write Z, N, H and keep C; the
16-bit forms write no flag. -/

namespace Sys2Proof.Machine

/-! ### Shared operations -/

/-- R140, R141: `r[y] <- r[y] + 1`. -/
def incLoc (o : Loc8) (s : State) : Result :=
  .next (((s.setLoc o (s.loc o + 1)).withFlags (incFlags (s.loc o))).advance 1)

/-- R142, R143: `r[y] <- r[y] - 1`. -/
def decLoc (o : Loc8) (s : State) : Result :=
  .next (((s.setLoc o (s.loc o - 1)).withFlags (decFlags (s.loc o))).advance 1)

/-- R144: `rp[p] <- rp[p] + 1`. -/
def incPair (p : RP) (s : State) : Result := .next ((s.setRP p (s.rp p + 1)).advance 1)

/-- R145: `rp[p] <- rp[p] - 1`. -/
def decPair (p : RP) (s : State) : Result := .next ((s.setRP p (s.rp p - 1)).advance 1)

/-! ### The instructions -/

/-- `INC BC` (R144). -/
def execInc_BC (s : State) : Result := incPair .bc s

/-- `INC B` (R140). -/
def execInc_B (s : State) : Result := incLoc (.reg .b) s

/-- `DEC B` (R142). -/
def execDec_B (s : State) : Result := decLoc (.reg .b) s

/-- `DEC BC` (R145). -/
def execDec_BC (s : State) : Result := decPair .bc s

/-- `INC C` (R140). -/
def execInc_C (s : State) : Result := incLoc (.reg .c) s

/-- `DEC C` (R142). -/
def execDec_C (s : State) : Result := decLoc (.reg .c) s

/-- `INC DE` (R144). -/
def execInc_DE (s : State) : Result := incPair .de s

/-- `INC D` (R140). -/
def execInc_D (s : State) : Result := incLoc (.reg .d) s

/-- `DEC D` (R142). -/
def execDec_D (s : State) : Result := decLoc (.reg .d) s

/-- `DEC DE` (R145). -/
def execDec_DE (s : State) : Result := decPair .de s

/-- `INC E` (R140). -/
def execInc_E (s : State) : Result := incLoc (.reg .e) s

/-- `DEC E` (R142). -/
def execDec_E (s : State) : Result := decLoc (.reg .e) s

/-- `INC HL` (R144). -/
def execInc_HL (s : State) : Result := incPair .hl s

/-- `INC H` (R140). -/
def execInc_H (s : State) : Result := incLoc (.reg .h) s

/-- `DEC H` (R142). -/
def execDec_H (s : State) : Result := decLoc (.reg .h) s

/-- `DEC HL` (R145). -/
def execDec_HL (s : State) : Result := decPair .hl s

/-- `INC L` (R140). -/
def execInc_L (s : State) : Result := incLoc (.reg .l) s

/-- `DEC L` (R142). -/
def execDec_L (s : State) : Result := decLoc (.reg .l) s

/-- `INC SP` (R144). -/
def execInc_SP (s : State) : Result := incPair .sp s

/-- `INC (HL)` (R141). -/
def execInc_atHL (s : State) : Result := incLoc .atHL s

/-- `DEC (HL)` (R143). -/
def execDec_atHL (s : State) : Result := decLoc .atHL s

/-- `DEC SP` (R145). -/
def execDec_SP (s : State) : Result := decPair .sp s

/-- `INC A` (R140). -/
def execInc_A (s : State) : Result := incLoc (.reg .a) s

/-- `DEC A` (R142). -/
def execDec_A (s : State) : Result := decLoc (.reg .a) s

end Sys2Proof.Machine
end

