-- ==== Sys2Proof/Machine/Jump.lean ====
section
/-! DEFINITION. Jumps (`45_jump.md`): no flag and no register but `pc` is written. -/

namespace Sys2Proof.Machine

/-! ### Shared operations -/

/-- R200: relative to the address of the next sequential instruction. -/
def jumpRel (d : Byte) (s : State) : Result := .next (s.jumpTo (s.pc + 2 + sext16 d))

/-- R201. -/
def jumpRelIf (k : Cond) (d : Byte) (s : State) : Result :=
  if s.cond k then jumpRel d s else .next (s.advance 2)

/-- R202. -/
def jumpAbs (nn : Word) (s : State) : Result := .next (s.jumpTo nn)

/-- R203. -/
def jumpAbsIf (k : Cond) (nn : Word) (s : State) : Result :=
  if s.cond k then jumpAbs nn s else .next (s.advance 3)

/-- R204: the value of `HL`; no memory is read. -/
def jumpHL (s : State) : Result := .next (s.jumpTo s.hl)

/-! ### The instructions -/

/-- `JR d` (R200). -/
def execJr_d (d : Byte) (s : State) : Result := jumpRel d s

/-- `JR NZ,d` (R201). -/
def execJr_NZ_d (d : Byte) (s : State) : Result := jumpRelIf .nz d s

/-- `JR Z,d` (R201). -/
def execJr_Z_d (d : Byte) (s : State) : Result := jumpRelIf .z d s

/-- `JR NC,d` (R201). -/
def execJr_NC_d (d : Byte) (s : State) : Result := jumpRelIf .nc d s

/-- `JR C,d` (R201). -/
def execJr_C_d (d : Byte) (s : State) : Result := jumpRelIf .c d s

/-- `JP NZ,nn` (R203). -/
def execJp_NZ_nn (nn : Word) (s : State) : Result := jumpAbsIf .nz nn s

/-- `JP nn` (R202). -/
def execJp_nn (nn : Word) (s : State) : Result := jumpAbs nn s

/-- `JP Z,nn` (R203). -/
def execJp_Z_nn (nn : Word) (s : State) : Result := jumpAbsIf .z nn s

/-- `JP NC,nn` (R203). -/
def execJp_NC_nn (nn : Word) (s : State) : Result := jumpAbsIf .nc nn s

/-- `JP C,nn` (R203). -/
def execJp_C_nn (nn : Word) (s : State) : Result := jumpAbsIf .c nn s

/-- `JP HL` (R204). -/
def execJp_HL (s : State) : Result := jumpHL s

end Sys2Proof.Machine
end

