-- ==== Sys2Proof/Machine/Load.lean ====
section
/-! DEFINITION. Loads (`41_load.md`): no flag is written (R110). -/

namespace Sys2Proof.Machine

/-! ### Shared operations -/

/-- R111: `r[y] <- r[z]`. -/
def loadReg (dst src : Reg8) (s : State) : Result := .next ((s.setReg dst (s.reg src)).advance 1)

/-- R112: `r[y] <- MemRead(HL, 1)`, the address from the old `HL`. -/
def loadFromHL (dst : Reg8) (s : State) : Result := .next ((s.setReg dst (s.readMem s.hl)).advance 1)

/-- R113: `MemWrite(HL, 1, r[z])`. -/
def storeToHL (src : Reg8) (s : State) : Result := .next ((s.writeMem s.hl (s.reg src)).advance 1)

/-- R114: `r[y] <- n`. -/
def loadImm (dst : Reg8) (n : Byte) (s : State) : Result := .next ((s.setReg dst n).advance 2)

/-- R115: `MemWrite(HL, 1, n)`. -/
def storeImmToHL (n : Byte) (s : State) : Result := .next ((s.writeMem s.hl n).advance 2)

/-- R116: `rp[p] <- nn`. -/
def loadPairImm (p : RP) (nn : Word) (s : State) : Result := .next ((s.setRP p nn).advance 3)

/-- R117, R118, R121, R124, R126: `MemWrite(addr, 1, A)`. -/
def storeA (addr : Word) (len : Nat) (s : State) : Result := .next ((s.writeMem addr s.a).advance len)

/-- R119, R120, R122, R125, R127: `A <- MemRead(addr, 1)`. -/
def loadA (addr : Word) (len : Nat) (s : State) : Result :=
  .next ((s.setReg .a (s.readMem addr)).advance len)

/-- R128: `sp <- HL`. -/
def loadSPFromHL (s : State) : Result := .next ((s.setRP .sp s.hl).advance 1)

/-- R129: `MemWrite(nn, 2, sp)`. -/
def storeSP (nn : Word) (s : State) : Result := .next ((s.writeMem16 nn s.sp).advance 3)

/-- R130, R132: `MemWrite(HL, 1, A)`, then `HL` steps. -/
def storeAStep (k : HLStep) (s : State) : Result :=
  .next (((s.writeMem s.hl s.a).setHL (stepHL k s.hl)).advance 1)

/-- R131, R133: `A <- MemRead(HL, 1)`, then `HL` steps. -/
def loadAStep (k : HLStep) (s : State) : Result :=
  .next (((s.setReg .a (s.readMem s.hl)).setHL (stepHL k s.hl)).advance 1)

/-! ### The instructions -/

/-- `LD BC,nn` (R116). -/
def execLd_BC_nn (nn : Word) (s : State) : Result := loadPairImm .bc nn s

/-- `LD (BC),A` (R117). -/
def execLd_atBC_A (s : State) : Result := storeA s.bc 1 s

/-- `LD B,n` (R114). -/
def execLd_B_n (n : Byte) (s : State) : Result := loadImm .b n s

/-- `LD (nn),SP` (R129). -/
def execLd_atNN_SP (nn : Word) (s : State) : Result := storeSP nn s

/-- `LD A,(BC)` (R119). -/
def execLd_A_atBC (s : State) : Result := loadA s.bc 1 s

/-- `LD C,n` (R114). -/
def execLd_C_n (n : Byte) (s : State) : Result := loadImm .c n s

/-- `LD DE,nn` (R116). -/
def execLd_DE_nn (nn : Word) (s : State) : Result := loadPairImm .de nn s

/-- `LD (DE),A` (R118). -/
def execLd_atDE_A (s : State) : Result := storeA s.de 1 s

/-- `LD D,n` (R114). -/
def execLd_D_n (n : Byte) (s : State) : Result := loadImm .d n s

/-- `LD A,(DE)` (R120). -/
def execLd_A_atDE (s : State) : Result := loadA s.de 1 s

/-- `LD E,n` (R114). -/
def execLd_E_n (n : Byte) (s : State) : Result := loadImm .e n s

/-- `LD HL,nn` (R116). -/
def execLd_HL_nn (nn : Word) (s : State) : Result := loadPairImm .hl nn s

/-- `LD (HL+),A` (R130). -/
def execLd_atHLinc_A (s : State) : Result := storeAStep .inc s

/-- `LD H,n` (R114). -/
def execLd_H_n (n : Byte) (s : State) : Result := loadImm .h n s

/-- `LD A,(HL+)` (R131). -/
def execLd_A_atHLinc (s : State) : Result := loadAStep .inc s

/-- `LD L,n` (R114). -/
def execLd_L_n (n : Byte) (s : State) : Result := loadImm .l n s

/-- `LD SP,nn` (R116). -/
def execLd_SP_nn (nn : Word) (s : State) : Result := loadPairImm .sp nn s

/-- `LD (HL-),A` (R132). -/
def execLd_atHLdec_A (s : State) : Result := storeAStep .dec s

/-- `LD (HL),n` (R115). -/
def execLd_atHL_n (n : Byte) (s : State) : Result := storeImmToHL n s

/-- `LD A,(HL-)` (R133). -/
def execLd_A_atHLdec (s : State) : Result := loadAStep .dec s

/-- `LD A,n` (R114). -/
def execLd_A_n (n : Byte) (s : State) : Result := loadImm .a n s

/-- `LD B,B` (R111). -/
def execLd_B_B (s : State) : Result := loadReg .b .b s

/-- `LD B,C` (R111). -/
def execLd_B_C (s : State) : Result := loadReg .b .c s

/-- `LD B,D` (R111). -/
def execLd_B_D (s : State) : Result := loadReg .b .d s

/-- `LD B,E` (R111). -/
def execLd_B_E (s : State) : Result := loadReg .b .e s

/-- `LD B,H` (R111). -/
def execLd_B_H (s : State) : Result := loadReg .b .h s

/-- `LD B,L` (R111). -/
def execLd_B_L (s : State) : Result := loadReg .b .l s

/-- `LD B,(HL)` (R112). -/
def execLd_B_atHL (s : State) : Result := loadFromHL .b s

/-- `LD B,A` (R111). -/
def execLd_B_A (s : State) : Result := loadReg .b .a s

/-- `LD C,B` (R111). -/
def execLd_C_B (s : State) : Result := loadReg .c .b s

/-- `LD C,C` (R111). -/
def execLd_C_C (s : State) : Result := loadReg .c .c s

/-- `LD C,D` (R111). -/
def execLd_C_D (s : State) : Result := loadReg .c .d s

/-- `LD C,E` (R111). -/
def execLd_C_E (s : State) : Result := loadReg .c .e s

/-- `LD C,H` (R111). -/
def execLd_C_H (s : State) : Result := loadReg .c .h s

/-- `LD C,L` (R111). -/
def execLd_C_L (s : State) : Result := loadReg .c .l s

/-- `LD C,(HL)` (R112). -/
def execLd_C_atHL (s : State) : Result := loadFromHL .c s

/-- `LD C,A` (R111). -/
def execLd_C_A (s : State) : Result := loadReg .c .a s

/-- `LD D,B` (R111). -/
def execLd_D_B (s : State) : Result := loadReg .d .b s

/-- `LD D,C` (R111). -/
def execLd_D_C (s : State) : Result := loadReg .d .c s

/-- `LD D,D` (R111). -/
def execLd_D_D (s : State) : Result := loadReg .d .d s

/-- `LD D,E` (R111). -/
def execLd_D_E (s : State) : Result := loadReg .d .e s

/-- `LD D,H` (R111). -/
def execLd_D_H (s : State) : Result := loadReg .d .h s

/-- `LD D,L` (R111). -/
def execLd_D_L (s : State) : Result := loadReg .d .l s

/-- `LD D,(HL)` (R112). -/
def execLd_D_atHL (s : State) : Result := loadFromHL .d s

/-- `LD D,A` (R111). -/
def execLd_D_A (s : State) : Result := loadReg .d .a s

/-- `LD E,B` (R111). -/
def execLd_E_B (s : State) : Result := loadReg .e .b s

/-- `LD E,C` (R111). -/
def execLd_E_C (s : State) : Result := loadReg .e .c s

/-- `LD E,D` (R111). -/
def execLd_E_D (s : State) : Result := loadReg .e .d s

/-- `LD E,E` (R111). -/
def execLd_E_E (s : State) : Result := loadReg .e .e s

/-- `LD E,H` (R111). -/
def execLd_E_H (s : State) : Result := loadReg .e .h s

/-- `LD E,L` (R111). -/
def execLd_E_L (s : State) : Result := loadReg .e .l s

/-- `LD E,(HL)` (R112). -/
def execLd_E_atHL (s : State) : Result := loadFromHL .e s

/-- `LD E,A` (R111). -/
def execLd_E_A (s : State) : Result := loadReg .e .a s

/-- `LD H,B` (R111). -/
def execLd_H_B (s : State) : Result := loadReg .h .b s

/-- `LD H,C` (R111). -/
def execLd_H_C (s : State) : Result := loadReg .h .c s

/-- `LD H,D` (R111). -/
def execLd_H_D (s : State) : Result := loadReg .h .d s

/-- `LD H,E` (R111). -/
def execLd_H_E (s : State) : Result := loadReg .h .e s

/-- `LD H,H` (R111). -/
def execLd_H_H (s : State) : Result := loadReg .h .h s

/-- `LD H,L` (R111). -/
def execLd_H_L (s : State) : Result := loadReg .h .l s

/-- `LD H,(HL)` (R112). -/
def execLd_H_atHL (s : State) : Result := loadFromHL .h s

/-- `LD H,A` (R111). -/
def execLd_H_A (s : State) : Result := loadReg .h .a s

/-- `LD L,B` (R111). -/
def execLd_L_B (s : State) : Result := loadReg .l .b s

/-- `LD L,C` (R111). -/
def execLd_L_C (s : State) : Result := loadReg .l .c s

/-- `LD L,D` (R111). -/
def execLd_L_D (s : State) : Result := loadReg .l .d s

/-- `LD L,E` (R111). -/
def execLd_L_E (s : State) : Result := loadReg .l .e s

/-- `LD L,H` (R111). -/
def execLd_L_H (s : State) : Result := loadReg .l .h s

/-- `LD L,L` (R111). -/
def execLd_L_L (s : State) : Result := loadReg .l .l s

/-- `LD L,(HL)` (R112). -/
def execLd_L_atHL (s : State) : Result := loadFromHL .l s

/-- `LD L,A` (R111). -/
def execLd_L_A (s : State) : Result := loadReg .l .a s

/-- `LD (HL),B` (R113). -/
def execLd_atHL_B (s : State) : Result := storeToHL .b s

/-- `LD (HL),C` (R113). -/
def execLd_atHL_C (s : State) : Result := storeToHL .c s

/-- `LD (HL),D` (R113). -/
def execLd_atHL_D (s : State) : Result := storeToHL .d s

/-- `LD (HL),E` (R113). -/
def execLd_atHL_E (s : State) : Result := storeToHL .e s

/-- `LD (HL),H` (R113). -/
def execLd_atHL_H (s : State) : Result := storeToHL .h s

/-- `LD (HL),L` (R113). -/
def execLd_atHL_L (s : State) : Result := storeToHL .l s

/-- `LD (HL),A` (R113). -/
def execLd_atHL_A (s : State) : Result := storeToHL .a s

/-- `LD A,B` (R111). -/
def execLd_A_B (s : State) : Result := loadReg .a .b s

/-- `LD A,C` (R111). -/
def execLd_A_C (s : State) : Result := loadReg .a .c s

/-- `LD A,D` (R111). -/
def execLd_A_D (s : State) : Result := loadReg .a .d s

/-- `LD A,E` (R111). -/
def execLd_A_E (s : State) : Result := loadReg .a .e s

/-- `LD A,H` (R111). -/
def execLd_A_H (s : State) : Result := loadReg .a .h s

/-- `LD A,L` (R111). -/
def execLd_A_L (s : State) : Result := loadReg .a .l s

/-- `LD A,(HL)` (R112). -/
def execLd_A_atHL (s : State) : Result := loadFromHL .a s

/-- `LD A,A` (R111). -/
def execLd_A_A (s : State) : Result := loadReg .a .a s

/-- `LDH (n),A` (R124). -/
def execLdh_atN_A (n : Byte) (s : State) : Result := storeA (highPage n) 2 s

/-- `LD (C),A` (R126). -/
def execLd_atC_A (s : State) : Result := storeA (highPage s.c) 1 s

/-- `LD (nn),A` (R121). -/
def execLd_atNN_A (nn : Word) (s : State) : Result := storeA nn 3 s

/-- `LDH A,(n)` (R125). -/
def execLdh_A_atN (n : Byte) (s : State) : Result := loadA (highPage n) 2 s

/-- `LD A,(C)` (R127). -/
def execLd_A_atC (s : State) : Result := loadA (highPage s.c) 1 s

/-- `LD SP,HL` (R128). -/
def execLd_SP_HL (s : State) : Result := loadSPFromHL s

/-- `LD A,(nn)` (R122). -/
def execLd_A_atNN (nn : Word) (s : State) : Result := loadA nn 3 s

end Sys2Proof.Machine
end

