-- ==== Sys2Proof/Machine/Stack.lean ====
section
/-! DEFINITION. Stack, call, return and restart (`46_stack_call.md`). -/

namespace Sys2Proof.Machine

/-! ### Shared operations -/

/-- R210. -/
def pushPair (q : RP2) (s : State) : Result := .next ((s.push16 (s.rp2 q)).advance 1)

/-- R211, R212. -/
def popPair (q : RP2) (s : State) : Result :=
  let (v, s') := s.pop16
  .next ((s'.setRP2 q v).advance 1)

/-- R213: the return address is `pc + 3`. -/
def callAbs (nn : Word) (s : State) : Result := .next ((s.push16 (s.pc + 3)).jumpTo nn)

/-- R215: nothing is pushed when the condition is false. -/
def callAbsIf (k : Cond) (nn : Word) (s : State) : Result :=
  if s.cond k then callAbs nn s else .next (s.advance 3)

/-- R216. -/
def returnFromCall (s : State) : Result :=
  let (v, s') := s.pop16
  .next (s'.jumpTo v)

/-- R217: `sp` is untouched when the condition is false. -/
def returnIf (k : Cond) (s : State) : Result :=
  if s.cond k then returnFromCall s else .next (s.advance 1)

/-- R220. -/
def returnEnable (s : State) : Result :=
  let (v, s') := s.pop16
  .next ({ s' with ime := true }.jumpTo v)

/-- R221: a one-byte call to `y * 8`. -/
def restart (y : Fin 8) (s : State) : Result :=
  .next ((s.push16 (s.pc + 1)).jumpTo (BitVec.ofNat 16 (y.val * 8)))

/-! ### The instructions -/

/-- `RET NZ` (R217). -/
def execRet_NZ (s : State) : Result := returnIf .nz s

/-- `POP BC` (R211). -/
def execPop_BC (s : State) : Result := popPair .bc s

/-- `CALL NZ,nn` (R215). -/
def execCall_NZ_nn (nn : Word) (s : State) : Result := callAbsIf .nz nn s

/-- `PUSH BC` (R210). -/
def execPush_BC (s : State) : Result := pushPair .bc s

/-- `RST 00h` (R221). -/
def execRst_00h (s : State) : Result := restart 0 s

/-- `RET Z` (R217). -/
def execRet_Z (s : State) : Result := returnIf .z s

/-- `RET` (R216). -/
def execRet (s : State) : Result := returnFromCall s

/-- `CALL Z,nn` (R215). -/
def execCall_Z_nn (nn : Word) (s : State) : Result := callAbsIf .z nn s

/-- `CALL nn` (R213). -/
def execCall_nn (nn : Word) (s : State) : Result := callAbs nn s

/-- `RST 08h` (R221). -/
def execRst_08h (s : State) : Result := restart 1 s

/-- `RET NC` (R217). -/
def execRet_NC (s : State) : Result := returnIf .nc s

/-- `POP DE` (R211). -/
def execPop_DE (s : State) : Result := popPair .de s

/-- `CALL NC,nn` (R215). -/
def execCall_NC_nn (nn : Word) (s : State) : Result := callAbsIf .nc nn s

/-- `PUSH DE` (R210). -/
def execPush_DE (s : State) : Result := pushPair .de s

/-- `RST 10h` (R221). -/
def execRst_10h (s : State) : Result := restart 2 s

/-- `RET C` (R217). -/
def execRet_C (s : State) : Result := returnIf .c s

/-- `RETI` (R220). -/
def execReti (s : State) : Result := returnEnable s

/-- `CALL C,nn` (R215). -/
def execCall_C_nn (nn : Word) (s : State) : Result := callAbsIf .c nn s

/-- `RST 18h` (R221). -/
def execRst_18h (s : State) : Result := restart 3 s

/-- `POP HL` (R211). -/
def execPop_HL (s : State) : Result := popPair .hl s

/-- `PUSH HL` (R210). -/
def execPush_HL (s : State) : Result := pushPair .hl s

/-- `RST 20h` (R221). -/
def execRst_20h (s : State) : Result := restart 4 s

/-- `RST 28h` (R221). -/
def execRst_28h (s : State) : Result := restart 5 s

/-- `POP AF` (R212). -/
def execPop_AF (s : State) : Result := popPair .af s

/-- `PUSH AF` (R210). -/
def execPush_AF (s : State) : Result := pushPair .af s

/-- `RST 30h` (R221). -/
def execRst_30h (s : State) : Result := restart 6 s

/-- `RST 38h` (R221). -/
def execRst_38h (s : State) : Result := restart 7 s

end Sys2Proof.Machine
end

