-- ==== Sys2Proof/Machine/System.lean ====
section
/-! DEFINITION. `NOP` (`40_loop.md` R102), the system instructions, the undefined bytes and the escape
slot (`48_system.md`). -/

namespace Sys2Proof.Machine

/-! ### Shared operations -/

/-- R102. -/
def nop (s : State) : Result := .next (s.advance 1)

/-- R240: completes, and latches `halted`. -/
def halt (s : State) : Result := .next ({ s with halted := .halted }.advance 1)

/-- R241: the immediate byte is read and ignored. -/
def stop (_n : Byte) (s : State) : Result := .next ({ s with halted := .stopped }.advance 2)

/-- R242. -/
def disableInterrupts (s : State) : Result := .next ({ s with ime := false }.advance 1)

/-- R243: the bit is written at once. -/
def enableInterrupts (s : State) : Result := .next ({ s with ime := true }.advance 1)

/-- R244: raises `UnrecognizedOpcode(pc, byte)`; nothing else changes and nothing is counted. -/
def undefinedOpcode (op : Byte) (s : State) : Result := .next (s.raise (.unrecognizedOpcode s.pc op))

/-- R245, R92: the escape byte. The loop never dispatches this slot; what the machine does on the byte
`0xCB` is to read the next byte as the true opcode, in table `cb` (log entry 9). -/
def escapeSlot (s : State) : Result :=
  match s.progRead (s.pc + 1) with
  | none => .next (s.raise (.outOfBoundsProgramRead (s.pc + 1) s.pc))
  | some op => runCB op s

/-! ### The instructions -/

/-- `NOP` (R102). -/
def execNop (s : State) : Result := nop s

/-- `STOP` (R241). -/
def execStop (n : Byte) (s : State) : Result := stop n s

/-- `HALT` (R240). -/
def execHalt (s : State) : Result := halt s

/-- `PREFIX CB` (R245). -/
def execPrefixCB (s : State) : Result := escapeSlot s

/-- `ILLEGAL` (R244). -/
def execIllegal (op : Byte) (s : State) : Result := undefinedOpcode op s

/-- `DI` (R242). -/
def execDi (s : State) : Result := disableInterrupts s

/-- `EI` (R243). -/
def execEi (s : State) : Result := enableInterrupts s

end Sys2Proof.Machine
end

