-- ==== Sys2Proof/Machine/Loop.lean ====
section
/-! DEFINITION. The instruction loop (`40_loop.md`), the steps that do nothing and the priority of faults
(`60_exceptions.md` R256, R257), and placing an instruction where the loop fetches next. -/

namespace Sys2Proof.Machine

/-- The leading bytes that were read, up to the first read that is out of range. -/
def readable : List (Option Byte) → List Byte
  | some b :: bs => b :: readable bs
  | _ => []

/-- The image bytes at `pc`, `pc + 1`, `pc + 2` (addresses modulo 65536, R19), up to the first that is
past the end of the image. -/
def State.window (s : State) : List Byte :=
  readable [s.progRead s.pc, s.progRead (s.pc + 1), s.progRead (s.pc + 2)]

/-- What a step comes to, in the order of the loop (R90, R256, R257). -/
inductive Attempt where
  /-- the latch `fault` is set (R256) -/
  | latched (r : Fault)
  /-- halted or stopped (R256) -/
  | idle
  /-- a fetch is out of range (R253) -/
  | fetchFault (r : Fault)
  /-- the slot's operation is null (R97) -/
  | nullOperation (slot : Slot)
  /-- the operation of a slot is run (R96) -/
  | execute (slot : Slot) (i : Instr)
deriving DecidableEq, Repr

/-- Steps 1 to 6 of the loop, after the latches are looked at. The decoder reads the bytes in ascending
order and needs byte `k` only after bytes 0 to k - 1, so the byte it lacks is the first fetch that is
out of range (R257); the null-operation check comes after every fetch. -/
def attempt (s : State) : Attempt :=
  match s.fault with
  | some r => .latched r
  | none =>
    match s.halted with
    | .halted => .idle
    | .stopped => .idle
    | .running =>
      match decode s.window with
      | .truncated k => .fetchFault (.outOfBoundsProgramRead (s.pc + BitVec.ofNat 16 k) s.pc)
      | .ok slot i _ => if s.config.isNull slot then .nullOperation slot else .execute slot i

/-- The state after a null operation: `pc` and `tickCount` advance, nothing else changes (R97). -/
def State.skipNull (s : State) (slot : Slot) : State := s.advance (slotLen slot)

/-- One pass of the loop (R90). A latched fault answers `.fault` and changes nothing; a halted or stopped
machine goes on unchanged (R256); a fault met now is latched (R254); a null operation is refused
(R97, log entry 6). -/
def runLoop (s : State) : Result :=
  match attempt s with
  | .latched r => .fault r
  | .idle => .next s
  | .fetchFault r => .next (s.raise r)
  | .nullOperation slot => .refused (.unimplemented slot)
  | .execute _ i => exec i s

/-- The image with the byte at `a` replaced, extended with zeros where it is too short. -/
def setImageByte : List Byte → Nat → Byte → List Byte
  | [], 0, v => [v]
  | [], a + 1, v => 0 :: setImageByte [] a v
  | _ :: bs, 0, v => v :: bs
  | b :: bs, a + 1, v => b :: setImageByte bs a v

/-- The image with bytes written from an address on, modulo 65536. -/
def placeBytes (image : List Byte) (addr : Word) : List Byte → List Byte
  | [] => image
  | v :: vs => placeBytes (setImageByte image addr.toNat v) (addr + 1) vs

/-- The state in which the next step fetches and runs the instruction of a row of the opcode table: its
bytes stand in the image from `pc` on and neither latch is set (log entry 7). -/
def State.placeWord (s : State) (nbits w : Nat) : State :=
  { s.clearLatches with image := placeBytes s.image s.pc (tableBytes nbits w) }

end Sys2Proof.Machine
end

