-- ==== Sys2Proof/Machine/Step.lean ====
section
/-! DEFINITION. The step of the machine (`40_loop.md` R90), and the state with an instruction placed where
the step fetches. -/

namespace Sys2Proof.Machine

/-- One step: the source's `RunInstruction()` (R90). -/
def step (s : State) : Host.Outcome State Fault Refusal := runLoop s

/-- The state whose next step runs the instruction that the opcode table numbers as `w` in `nbits` bits
(log entries 7 and 8). -/
def State.withFetchWord (s : State) (nbits w : Nat) : State := s.placeWord nbits w

end Sys2Proof.Machine
end

