-- ==== Sys2Proof/Machine/HostPort.lean ====
section
/-! DEFINITION. What the host may do to CORE between steps (`70_reset_and_hazards.md` R280 to R284,
`20_memory.md` R56), and the status a step returns (`60_exceptions.md` R250). -/

namespace Sys2Proof.Machine

/-- The statuses of R250. -/
inductive Status where
  | ok
  | unimplemented (slot : Slot)
  | halted
  | stopped
  | fault (record : Fault)
deriving DecidableEq, Repr

/-- The status of a machine that is not asked to fetch, or has just run: its latched fault, or `Ok`. -/
def latchStatus (s : State) : Status :=
  match s.fault with
  | some r => .fault r
  | none => .ok

/-- The status of a step that found the machine halted or stopped (R256). -/
def idleStatus (s : State) : Status :=
  match s.halted with
  | .running => .ok
  | .halted => .halted
  | .stopped => .stopped

/-- `RunInstruction()` as the host sees it: the status and the state after (R250). -/
def runInstruction (s : State) : Status × State :=
  match attempt s with
  | .latched r => (.fault r, s)
  | .idle => (idleStatus s, s)
  | .fetchFault r => (.fault r, s.raise r)
  | .nullOperation slot => (.unimplemented slot, s.skipNull slot)
  | .execute slot i =>
    match exec i s with
    | .next t => (latchStatus t, t)
    | .fault r => (.fault r, s)
    | .refused _ => (.unimplemented slot, s)

/-- Whether `RunFrame` stops at a status (R103). -/
def Status.endsFrame : Status → Bool
  | .ok => false
  | .unimplemented _ => false
  | .halted => true
  | .stopped => true
  | .fault _ => true

/-- `n` steps in sequence and the status of the last, stopping early (R103). No step at all answers `Ok`
(log entry 3). -/
def runInstructions : Nat → State → Status × State
  | 0, s => (.ok, s)
  | n + 1, s =>
    let (st, t) := runInstruction s
    if st.endsFrame || n == 0 then (st, t) else runInstructions n t

/-- `RunFrame()` (R103): `FRAME_INSTRUCTIONS` steps (R8). -/
def runFrame (s : State) : Status × State := runInstructions Config.frameInstructions s

/-- `LoadProgram(bytes)` (R283): the image is replaced, `pc` is 0, the latches are cleared, all else is
kept. -/
def State.loadProgram (s : State) (bytes : List Byte) : State :=
  { s.clearLatches with image := bytes, pc := 0 }

/-- `Reset()` (R280), with the values `r` in the registers it leaves unspecified (R281). -/
def State.hostReset (s : State) (r : ResetRegs) : State := State.resetWith s.config r

/-- `ReadMemory(address)` of the host (R56). -/
def State.hostReadMemory (s : State) (addr : Word) : Byte := s.readMem addr

/-- `WriteMemory(address, value)` of the host, between steps (R56). -/
def State.hostWriteMemory (s : State) (addr : Word) (v : Byte) : State := s.writeMem addr v

/-- `ReadProgram8(address)` (R42, R56); `none` past the end of the image. -/
def State.readProgram8 (s : State) (addr : Word) : Option Byte := s.progRead addr

/-- `ReadProgram16(address)` (R46, R56): low byte first, the second address modulo 65536. -/
def State.readProgram16 (s : State) (addr : Word) : Option Word :=
  match s.progRead addr, s.progRead (addr + 1) with
  | some lo, some hi => some (mkWord hi lo)
  | _, _ => none

/-- R255: the fault of the first malformed descriptor of the opcode tables, checked when they are built. -/
def tableFault : Option Fault :=
  (allSlots.find? (fun s => !(lookup s).consistent)).map .malformedTableEntry

end Sys2Proof.Machine
end

