-- ==== Sys2Proof/Safety.lean ====
section
/-! DEFINITION. The terms claims are written in: what a step may leave unchanged (frames), which flags and
registers each form writes (R16, R27), the invariant of the machine, and repeated pushes and pops. -/

namespace Sys2Proof.Machine

/-! ### Frames -/

/-- The four flags (R14). -/
inductive Flag where
  | z | n | h | c
deriving DecidableEq, Repr

/-- A flag of a state (R14). -/
def State.flag (s : State) : Flag → Bool
  | .z => flagZ s.f
  | .n => flagN s.f
  | .h => flagH s.f
  | .c => flagC s.f

/-- What an instruction may change besides `pc` and `tickCount`. -/
structure Touches where
  /-- general registers -/
  regs : List Reg8 := []
  flags : List Flag := []
  /-- data-memory bytes -/
  stores : List Word := []
  sp : Bool := false
  ime : Bool := false
  halted : Bool := false
  /-- bits 3 to 0 of `F` -/
  low : Bool := false

/-- The instruction completed, and changed nothing but `pc` and what `w` lists. -/
structure Frame (w : Touches) (s t : State) : Prop where
  regs : ∀ r, r ∉ w.regs → t.reg r = s.reg r
  flags : ∀ g, g ∉ w.flags → t.flag g = s.flag g
  low : w.low = false → flagLow t.f = flagLow s.f
  mem : ∀ a, a ∉ w.stores → t.readMem a = s.readMem a
  sp : w.sp = false → t.sp = s.sp
  ime : w.ime = false → t.ime = s.ime
  halted : w.halted = false → t.halted = s.halted
  fault : t.fault = s.fault
  image : t.image = s.image
  config : t.config = s.config
  tick : t.tickCount = s.tickCount + 1

end Sys2Proof.Machine

namespace Sys2Proof

open Machine

/-! ### What each form writes (R16, R27) -/

/-- The registers a pair is made of (R12). -/
def RP.regs : RP → List Reg8
  | .bc => [.b, .c]
  | .de => [.d, .e]
  | .hl => [.h, .l]
  | .sp => []

/-- The general registers a pair is made of; `F` is no general register (R12). -/
def RP2.regs : RP2 → List Reg8
  | .bc => [.b, .c]
  | .de => [.d, .e]
  | .hl => [.h, .l]
  | .af => [.a]

/-- The register an 8-bit operand is, if it is one. -/
def Loc8.regs : Loc8 → List Reg8
  | .reg r => [r]
  | .atHL => []

/-- The byte an 8-bit operand is, if it is one. -/
def Loc8.stores (s : State) : Loc8 → List Word
  | .reg _ => []
  | .atHL => [s.hl]

/-- All four flags. -/
def allFlags : List Flag := [.z, .n, .h, .c]

/-- The flags a `cb` rotate or shift writes (R16): C only, for `RLC` and `RL` when `ROT_FLAGS = gb`. -/
def RotOp.flags (rf : RotFlags) : RotOp → List Flag
  | .rlc | .rl => if rf = .gb then [.c] else allFlags
  | .rrc | .rr | .sla | .sra | .swap | .srl => allFlags

/-- The flags a one-byte rotate of `A` writes (R16): C only, for `RLCA` and `RLA` when `ROT_FLAGS = gb`. -/
def RotAOp.flags (rf : RotFlags) : RotAOp → List Flag
  | .rlca | .rla => if rf = .gb then [.c] else allFlags
  | .rrca | .rra => allFlags

/-- The register an ALU operation writes: none for `CP` (R150). -/
def AluOp.regs : AluOp → List Reg8
  | .cp => []
  | .add | .adc | .sub | .sbc | .and | .xor | .or => [.a]

/-- The two bytes a push stores to (R20, R48). -/
def Machine.pushStores (s : State) : List Word := [s.sp - 1, s.sp - 2]

/-- What each form may change in a state: the table of R16, and R23, R24, R27. (The last two forms are no
operation of the map; claims about frames leave them out.) -/
def Form.touches (s : State) : Form → Touches
  | .nop => {}
  | .ldReg dst _ => { regs := [dst] }
  | .ldFromHL dst => { regs := [dst] }
  | .ldToHL _ => { stores := [s.hl] }
  | .ldImm dst _ => { regs := [dst] }
  | .ldHLImm _ => { stores := [s.hl] }
  | .ldPairImm p _ => { regs := p.regs, sp := p == .sp }
  | .stAPtr q => { stores := [s.ptr q] }
  | .ldAPtr _ => { regs := [.a] }
  | .stAAbs nn => { stores := [nn] }
  | .ldAAbs _ => { regs := [.a] }
  | .stAHigh n => { stores := [highPage n] }
  | .ldAHigh _ => { regs := [.a] }
  | .stAHighC => { stores := [highPage s.c] }
  | .ldAHighC => { regs := [.a] }
  | .ldSPHL => { sp := true }
  | .stSPAbs nn => { stores := [nn, nn + 1] }
  | .stAStep _ => { regs := [.h, .l], stores := [s.hl] }
  | .ldAStep _ => { regs := [.a, .h, .l] }
  | .inc8 o => { regs := o.regs, stores := o.stores s, flags := [.z, .n, .h] }
  | .dec8 o => { regs := o.regs, stores := o.stores s, flags := [.z, .n, .h] }
  | .inc16 p => { regs := p.regs, sp := p == .sp }
  | .dec16 p => { regs := p.regs, sp := p == .sp }
  | .alu op _ => { regs := op.regs, flags := allFlags }
  | .daa => { regs := [.a], flags := [.z, .h, .c] }
  | .cpl => { regs := [.a], flags := [.n, .h] }
  | .scf => { flags := [.n, .h, .c] }
  | .ccf => { flags := [.n, .h, .c] }
  | .rot op o => { regs := o.regs, stores := o.stores s, flags := op.flags s.config.rotFlags }
  | .rotA op => { regs := [.a], flags := op.flags s.config.rotFlags }
  | .bit _ _ => { flags := [.z, .n, .h] }
  | .res _ o => { regs := o.regs, stores := o.stores s }
  | .set _ o => { regs := o.regs, stores := o.stores s }
  | .jr _ => {}
  | .jrIf _ _ => {}
  | .jp _ => {}
  | .jpIf _ _ => {}
  | .jpHL => {}
  | .push _ => { stores := pushStores s, sp := true }
  | .pop q => { regs := q.regs, flags := if q = .af then allFlags else [], low := q == .af, sp := true }
  | .call _ => { stores := pushStores s, sp := true }
  | .callIf k _ => { stores := if s.cond k then pushStores s else [], sp := s.cond k }
  | .ret => { sp := true }
  | .retIf k => { sp := s.cond k }
  | .reti => { sp := true, ime := true }
  | .rst _ => { stores := pushStores s, sp := true }
  | .addHL _ => { regs := [.h, .l], flags := [.n, .h, .c] }
  | .addSP _ => { flags := allFlags, sp := true }
  | .ldHLSP _ => { regs := [.h, .l], flags := allFlags }
  | .halt => { halted := true }
  | .stop _ => { halted := true }
  | .di => { ime := true }
  | .ei => { ime := true }
  | .undefined _ => {}
  | .escape => {}

/-- Whether a form is a taken control transfer in a state (R98, R100). -/
def Form.transfers (s : State) : Form → Bool
  | .jr _ | .jp _ | .jpHL | .call _ | .ret | .reti | .rst _ => true
  | .jrIf k _ | .jpIf k _ | .callIf k _ | .retIf k => s.cond k
  | _ => false

/-- An instruction of the opcode map: neither an undefined byte nor the escape slot (R80, R245). -/
def Instr.isOperation (i : Instr) : Bool :=
  match i.form with
  | .undefined _ => false
  | .escape => false
  | _ => true

end Sys2Proof

namespace Sys2Proof.Machine

/-! ### The invariant -/

/-- A machine that is asked to fetch: neither latch is set (R90). -/
abbrev State.Running (s : State) : Prop := s.fault = none ∧ s.halted = .running

/-- A latched record tells the truth about the state it was raised in, which is the present one (R252 to
R254): `pc` is still at the faulting instruction, and the byte is there, or the address is out of range. -/
def latchSound (s : State) : Bool :=
  match s.fault with
  | none => true
  | some (.unrecognizedOpcode p b) => p == s.pc && undefinedBytes.contains b && s.progRead s.pc == some b
  | some (.outOfBoundsProgramRead a p) => p == s.pc && s.progRead a == none
  | some (.malformedTableEntry _) => false

/-- The invariant every step keeps: bits 3 to 0 of `F` are zero (R15), the fault latch is sound
(R254), and memory is in canonical form, which is the model's own (log entry 11). -/
abbrev Inv (s : State) : Prop := flagLow s.f = 0 ∧ Memory.wf s.mem = true ∧ latchSound s = true

/-- A run of `n` steps that is safe: it reaches a state with no fault latched. -/
def SafeRun (n : Nat) (s : State) : Prop := ∃ t, core.run n s = .next t ∧ t.fault = none

/-! ### Repeated pushes and pops (R214) -/

/-- Pushes the values in order. -/
def pushAll : List Word → State → State
  | [], s => s
  | v :: vs, s => pushAll vs (s.push16 v)

/-- Pops `n` values, the first popped first. -/
def popAll : Nat → State → List Word × State
  | 0, s => ([], s)
  | n + 1, s =>
    let (v, s') := s.pop16
    let (vs, t) := popAll n s'
    (v :: vs, t)

end Sys2Proof.Machine
end

