-- ==== Sys2Proof/Certificates/Slice0/Obligations.lean ====
section
/-! DEFINITION. The statements for the provers. A statement about an instruction names it by its form
(`Instr.form`), gives its bytes, and concludes that `exec` answers a next state, for every state, with
what that state holds; `Frame w s t` says that nothing but `pc` and what `w` lists has changed and that
`tickCount` has gone up by one. -/

open Sys2Proof Sys2Proof.Machine

/-! ### Encoding and decoding -/

/-- R62, R72 to R79: no bit of an encoding is dropped. -/
def Obligations.DecodeOfEncodeIsTheInstruction : Prop :=
  ∀ (i : Instr) (rest : List Byte), i.wellFormed = true →
    ∃ slot, decode (encode i ++ rest) = .ok slot i rest

/-- R60 to R62, R65: each byte sequence the decoder accepts is the encoding of the one well-formed
instruction it answers, of the length its slot's descriptor gives; and the slot is the opcode byte's. -/
def Obligations.EncodeOfDecodeIsTheBytes : Prop :=
  ∀ (bs : List Byte) (slot : Slot) (i : Instr) (rest : List Byte), decode bs = .ok slot i rest →
    i.wellFormed = true ∧ encode i ++ rest = bs ∧ (encode i).length = slotLen slot ∧
      (match slot.table with
        | .base => (encode i)[0]? = some slot.byte ∧ slot.byte ≠ 0xCB
        | .cb => encode i = [0xCB, slot.byte])

/-- R60: lookup by any byte answers an entry, so three bytes are always enough. -/
def Obligations.ThreeBytesAlwaysDecode : Prop :=
  ∀ (b0 b1 b2 : Byte) (rest : List Byte),
    ∃ slot i left, decode (b0 :: b1 :: b2 :: rest) = .ok slot i left

/-- Words written out from R72 to R76, one or two of each family. -/
def Obligations.WordsOfEachFamilyDecode : Prop :=
  decode [0b00000000] = .ok ⟨.base, 0x00⟩ .nop [] ∧
  decode [0b00100001, 0x34, 0x12] = .ok ⟨.base, 0x21⟩ (.ld_HL_nn 0x1234) [] ∧
  decode [0b01000001] = .ok ⟨.base, 0x41⟩ .ld_B_C [] ∧
  decode [0b00110101] = .ok ⟨.base, 0x35⟩ .dec_atHL [] ∧
  decode [0b10101111] = .ok ⟨.base, 0xAF⟩ .xor_A [] ∧
  decode [0b11111110, 0x90] = .ok ⟨.base, 0xFE⟩ (.cp_n 0x90) [] ∧
  decode [0b11001011, 0b01111100] = .ok ⟨.cb, 0x7C⟩ .bit_7_H [] ∧
  decode [0b11001011, 0b11001011] = .ok ⟨.cb, 0xCB⟩ .set_1_E [] ∧
  decode [0b00110000, 0x05] = .ok ⟨.base, 0x30⟩ (.jr_NC_d 0x05) [] ∧
  decode [0b11001100, 0x00, 0x02] = .ok ⟨.base, 0xCC⟩ (.call_Z_nn 0x0200) [] ∧
  decode [0b11110001] = .ok ⟨.base, 0xF1⟩ .pop_AF [] ∧
  decode [0b00101001] = .ok ⟨.base, 0x29⟩ .add_HL_HL [] ∧
  decode [0b11111000, 0xFE] = .ok ⟨.base, 0xF8⟩ (.ld_HL_SPplusD 0xFE) [] ∧
  decode [0b01110110] = .ok ⟨.base, 0x76⟩ .halt [] ∧
  decode [0b11101101, 0x00] = .ok ⟨.base, 0xED⟩ (.illegal 0xED) [0x00]

/-- R63, R64: the fields of an opcode byte are a lossless partition of it. -/
def Obligations.BitFieldsPartitionTheOpcode : Prop :=
  ∀ b : Byte,
    (fields b).x.toNat = b.toNat / 64 ∧ (fields b).y.toNat = b.toNat / 8 % 8 ∧
    (fields b).z.toNat = b.toNat % 8 ∧
    (fields b).p.toNat = (fields b).y.toNat / 2 ∧ (fields b).q.toNat = (fields b).y.toNat % 2 ∧
    (fields b).x.toNat * 64 + (fields b).y.toNat * 8 + (fields b).z.toNat = b.toNat ∧
    (fields b).p.toNat * 2 + (fields b).q.toNat = (fields b).y.toNat

/-- R82, R255 (the spec's decision D28): every descriptor's flags are consistent with its operation, so that the check made when
the tables are built finds nothing, and no step ever latches `MalformedTableEntry`. -/
def Obligations.NoTableEntryIsMalformed : Prop :=
  (∀ slot : Slot, (lookup slot).hasDisp = (lookup slot).operation.readsDisp ∧
    (lookup slot).immSize = (lookup slot).operation.readsImm) ∧
  tableFault = none ∧
  ∀ (s t : State) (slot : Slot), step s = .next t → t.fault ≠ some (.malformedTableEntry slot)

/-! ### Reset, program load, memory -/

/-- R280, for every value of the parameters and of the registers it leaves unspecified (R281). -/
def Obligations.ResetState : Prop :=
  ∀ (cfg : Config) (r : ResetRegs) (s : State), s = State.resetWith cfg r →
    (∀ addr, s.readMem addr = 0) ∧ s.pc = 0 ∧
    s.a = r.a ∧ s.b = r.b ∧ s.c = r.c ∧ s.d = r.d ∧ s.e = r.e ∧ s.h = r.h ∧ s.l = r.l ∧
    s.f.extractLsb' 4 4 = r.fHigh ∧ s.f.extractLsb' 0 4 = 0 ∧ s.sp = r.sp ∧
    s.tickCount = 0 ∧ s.ime = false ∧ s.halted = .running ∧ s.fault = none ∧ s.image = [] ∧
    s.config = cfg

/-- The invariant holds after every reset: bits 3 to 0 of `F` and the fault latch are as R280 leaves them.
That memory is in canonical form (`Memory.wf`) is the model's choice (log entry 11), not the spec's. -/
def Obligations.InvariantHoldsAtReset : Prop :=
  ∀ (cfg : Config) (r : ResetRegs), Inv (State.resetWith cfg r)

/-- Headline: bits 3 to 0 of `F` stay zero (R15), memory stays in canonical form, and the fault latch stays
sound (R254), from every state that meets them. The canonical form of memory (`Memory.wf`) is the model's
choice (log entry 11): no rule of the spec speaks of it. -/
def Obligations.StepKeepsTheInvariant : Prop :=
  ∀ s t : State, Inv s → step s = .next t → Inv t

/-- R283: what `LoadProgram` replaces, clears and keeps. -/
def Obligations.LoadProgramEffect : Prop :=
  ∀ (s t : State) (bytes : List Byte), t = s.loadProgram bytes →
    t.image = bytes ∧ t.pc = 0 ∧ t.fault = none ∧ t.halted = .running ∧
    (∀ r, t.reg r = s.reg r) ∧ t.f = s.f ∧ t.sp = s.sp ∧ t.ime = s.ime ∧ t.tickCount = s.tickCount ∧
    t.mem = s.mem ∧ t.config = s.config

/-- R44: a read answers the latest write to its address, or 0 if there was none since reset. The third
clause, that a write keeps the canonical form of memory (`Memory.wf`), is the model's choice (log entry 11):
no rule of the spec speaks of it. -/
def Obligations.ReadAnswersTheLatestWrite : Prop :=
  (∀ (s : State) (a b : Word) (v : Byte),
    (s.writeMem a v).readMem b = if b = a then v else s.readMem b) ∧
  (∀ (cfg : Config) (r : ResetRegs) (a : Word), (State.resetWith cfg r).readMem a = 0) ∧
  ∀ (s : State) (a : Word) (v : Byte), Memory.wf s.mem = true → Memory.wf (s.writeMem a v).mem = true

/-- R42, R46: a program read answers the image's byte or is out of range, and a 16-bit one takes its low
byte first. -/
def Obligations.ProgramReads : Prop :=
  ∀ (s : State) (a : Word),
    (s.image.length ≤ a.toNat → s.progRead a = none) ∧
    (∀ h : a.toNat < s.image.length, s.progRead a = some s.image[a.toNat]) ∧
    ∀ lo hi, s.progRead a = some lo → s.progRead (a + 1) = some hi →
      ∃ v, s.readProgram16 a = some v ∧ v.toNat = hi.toNat * 256 + lo.toNat

/-! ### The loop -/

/-- R96: a step runs the instruction the fetched bytes decode to. -/
def Obligations.StepRunsTheDecodedInstruction : Prop :=
  ∀ (s : State) (slot : Slot) (i : Instr) (rest : List Byte), s.Running →
    decode s.window = .ok slot i rest → s.config.isNull slot = false → step s = exec i s

/-- A step runs the instruction whose encoding stands in the image from `pc` on (R90 to R96). -/
def Obligations.StepRunsTheEncodedInstruction : Prop :=
  ∀ (s : State) (i : Instr), s.Running → i.wellFormed = true →
    (∀ (k : Nat) (h : k < (encode i).length),
      s.progRead (s.pc + BitVec.ofNat 16 k) = some (encode i)[k]) →
    (∀ slot, s.config.isNull slot = false) → step s = exec i s

/-- R253, R257: the first fault in the order of the loop is the one raised, whether or not the slot's
operation is null. The order is the spec's own inference ("derived: from rules R91 to R96"). That `step`
answers the latched state as a next state is the model's choice (log entry 4). -/
def Obligations.FirstFetchFaultIsRaised : Prop :=
  ∀ s : State, s.Running →
    (s.progRead s.pc = none →
      step s = .next { s with fault := some (.outOfBoundsProgramRead s.pc s.pc) }) ∧
    (s.progRead s.pc = some 0xCB → s.progRead (s.pc + 1) = none →
      step s = .next { s with fault := some (.outOfBoundsProgramRead (s.pc + 1) s.pc) }) ∧
    (∀ b ∈ undefinedBytes, s.progRead s.pc = some b →
      step s = .next { s with fault := some (.unrecognizedOpcode s.pc b) }) ∧
    (∀ b : Byte, b ≠ 0xCB → s.progRead s.pc = some b → 2 ≤ slotLen ⟨.base, b⟩ →
      s.progRead (s.pc + 1) = none →
      step s = .next { s with fault := some (.outOfBoundsProgramRead (s.pc + 1) s.pc) }) ∧
    (∀ b c : Byte, b ≠ 0xCB → s.progRead s.pc = some b → slotLen ⟨.base, b⟩ = 3 →
      s.progRead (s.pc + 1) = some c → s.progRead (s.pc + 2) = none →
      step s = .next { s with fault := some (.outOfBoundsProgramRead (s.pc + 2) s.pc) })

/-- R254: a fault changes nothing but the latch, and the step returns it. -/
def Obligations.FaultsArePrecise : Prop :=
  ∀ (s t : State) (r : Fault), s.fault = none → step s = .next t → t.fault = some r →
    t = { s with fault := some r } ∧ runInstruction s = (.fault r, t)

/-- R256: with a latch set, every later step does nothing and says so; `LoadProgram` and reset clear
both latches. (That `step` answers the latched record as a fault, and a halted machine as its own next state,
is the model's choice: log entries 4 and 5.) -/
def Obligations.LatchedStepsDoNothing : Prop :=
  (∀ (s : State) (r : Fault), s.fault = some r →
    runInstruction s = (.fault r, s) ∧ ∀ n, core.run (n + 1) s = .fault r) ∧
  (∀ s : State, s.fault = none → s.halted = .halted →
    runInstruction s = (.halted, s) ∧ ∀ n, core.run n s = .next s) ∧
  (∀ s : State, s.fault = none → s.halted = .stopped →
    runInstruction s = (.stopped, s) ∧ ∀ n, core.run n s = .next s) ∧
  (∀ (s : State) (bytes : List Byte), (s.loadProgram bytes).Running) ∧
  ∀ (s : State) (r : ResetRegs), (s.hostReset r).Running

/-- R97: a null operation is refused by the step, and as the host sees it `pc` and `tickCount` advance
and nothing else changes, so that a next step runs; under `IMPL_ALL` there is none. -/
def Obligations.NullOperationsAreSkippedAndRefused : Prop :=
  (∀ (s : State) (slot : Slot) (i : Instr) (rest : List Byte), s.Running →
    decode s.window = .ok slot i rest → s.config.isNull slot = true →
    step s = .refused (.unimplemented slot) ∧
    ∃ t, runInstruction s = (.unimplemented slot, t) ∧ t.Running ∧
      t = { s with pc := s.pc + BitVec.ofNat 16 (encode i).length, tickCount := s.tickCount + 1 }) ∧
  ∀ (cfg : Config) (slot : Slot), cfg.nullSlots = implAll → cfg.isNull slot = false

/-- R99, R21: `tickCount` goes up by one with each completed step, a null operation's included, and with
no other. -/
def Obligations.TickCountCountsCompletedSteps : Prop :=
  ∀ (s t : State) (st : Status), runInstruction s = (st, t) →
    (st = .ok → s.Running → t.tickCount = s.tickCount + 1) ∧
    (∀ slot, st = .unimplemented slot → t.tickCount = s.tickCount + 1) ∧
    (∀ r, st = .fault r → t.tickCount = s.tickCount) ∧
    (st = .halted → t.tickCount = s.tickCount) ∧ (st = .stopped → t.tickCount = s.tickCount) ∧
    (st = .ok → s.Running)

/-- R98: an instruction that is not a taken control transfer advances `pc` by its length, which is the sum of
the rule. -/
def Obligations.SequentialAdvance : Prop :=
  (∀ slot : Slot, slotLen slot = 1 + (if slot.table = .cb then 1 else 0) +
    (if (lookup slot).hasDisp then 1 else 0) + (lookup slot).immSize) ∧
  (∀ (bs : List Byte) (slot : Slot) (i : Instr) (rest : List Byte), decode bs = .ok slot i rest →
    (encode i).length = slotLen slot) ∧
  ∀ (i : Instr) (s : State), i.isOperation = true → i.form.transfers s = false →
    ∃ t, exec i s = .next t ∧ t.pc = s.pc + BitVec.ofNat 16 (encode i).length

/-- R43 and, for the parameters, R26: no instruction and no step changes the image or the parameters. -/
def Obligations.ImageAndParametersNeverChange : Prop :=
  (∀ (i : Instr) (s t : State), exec i s = .next t → t.image = s.image ∧ t.config = s.config) ∧
  ∀ s t : State, step s = .next t → t.image = s.image ∧ t.config = s.config

/-- R40, R55 (the spec's own inference, "derived: from rule R40 and rule R43"): a fetch never depends on the data memory, and an instruction's effect never depends on the
image. -/
def Obligations.CodeAndDataAreSeparate : Prop :=
  (∀ (s : State) (m : Memory), attempt { s with mem := m } = attempt s) ∧
  ∀ (i : Instr) (s : State) (image : List Byte), i.isOperation = true →
    ∃ t, exec i s = .next t ∧ exec i { s with image := image } = .next { t with image := image }

/-- R23, R24: `ime` changes only by `DI`, `EI` and `RETI`, and `halted` only by `HALT` and `STOP`; no
step sets the machine running again. -/
def Obligations.OnlyTheirInstructionsChangeImeAndHalted : Prop :=
  ∀ s t : State, step s = .next t →
    (t.ime ≠ s.ime → ∃ slot i rest, decode s.window = .ok slot i rest ∧
      (i = .di ∨ i = .ei ∨ i = .reti)) ∧
    (t.halted ≠ s.halted → ∃ slot i rest, decode s.window = .ok slot i rest ∧
      (i = .halt ∨ ∃ n, i = .stop n)) ∧
    (t.halted = .running → s.halted = .running)

/-- R6, R262: where every operation is implemented, nothing is refused, so a machine whose fault latch is
clear answers a next state on every step. That a step which meets a fault answers a next state (the latch
set), and that a step of a halted or stopped machine answers one (the state unchanged), is the model's
choice (log entries 4 and 5). -/
def Obligations.EveryStepGoesOnUnderImplAll : Prop :=
  ∀ s : State, s.fault = none → s.config.nullSlots = implAll → ∃ t, step s = .next t

/-- R15, R16, and R27 (the spec's own inference): every instruction of the map completes in every state, and changes only the
registers, flags, memory bytes and latches that its form writes. -/
def Obligations.EveryInstructionCompletesInItsFrame : Prop :=
  ∀ (i : Instr) (s : State), i.isOperation = true →
    ∃ t, exec i s = .next t ∧ Frame (i.form.touches s) s t

/-- R103: a frame is its steps: where they all complete its status is `Ok` and its state theirs, and it
stops at once in a halted, stopped or faulted machine. -/
def Obligations.AFrameIsItsSteps : Prop :=
  (∀ (n : Nat) (s t : State), core.run (n + 1) s = .next t → t.Running →
    runInstructions (n + 1) s = (.ok, t)) ∧
  (∀ (n : Nat) (s : State), ¬ s.Running → runInstructions (n + 1) s = runInstruction s) ∧
  ∀ s : State, runFrame s = runInstructions Config.frameInstructions s

/-! ### Pairs and the stack -/

/-- R13: splitting and merging are inverse, and a pair reads back as written, but for the low nibble of
`F` in `AF`. -/
def Obligations.PairsReadBackAsWritten : Prop :=
  (∀ hi lo : Byte, (mkWord hi lo).toNat = hi.toNat * 256 + lo.toNat) ∧
  (∀ v : Word, mkWord (hiByte v) (loByte v) = v) ∧
  (∀ hi lo : Byte, hiByte (mkWord hi lo) = hi ∧ loByte (mkWord hi lo) = lo) ∧
  ∀ (s : State) (q : RP2) (v : Word),
    (s.setRP2 q v).rp2 q = if q = .af then v &&& 0xFFF0 else v

/-- R214 (the spec's own inference, "derived: from rules R210 to R212"): pushing values and popping as many
restores `sp`, for any number; and while the pushed region does not overlap itself the values come back in
reverse order. A pushed pair pops back, `AF` up to its mask. -/
def Obligations.StackRoundTrip : Prop :=
  (∀ (vs : List Word) (s : State),
    (popAll vs.length (pushAll vs s)).2.sp = s.sp ∧
    (2 * vs.length ≤ 65536 → (popAll vs.length (pushAll vs s)).1 = vs.reverse)) ∧
  ∀ (s : State) (q : RP2),
    ((s.push16 (s.rp2 q)).drop16.setRP2 q (s.push16 (s.rp2 q)).top16).rp2 q =
      if q = .af then s.af &&& 0xFFF0 else s.rp2 q

/-! ### `NOP` and the loads -/

/-- R102. -/
def Obligations.NopEffect : Prop :=
  encode .nop = [0x00] ∧
  ∀ s : State, ∃ t, exec .nop s = .next t ∧ t.pc = s.pc + 1 ∧ Frame {} s t

/-- R111. -/
def Obligations.LoadRegisterFromRegister : Prop :=
  ∀ (i : Instr) (dst src : Reg8), i.form = .ldReg dst src →
    encode i = [0b01#2 ++ dst.code ++ src.code] ∧
    ∀ s : State, ∃ t, exec i s = .next t ∧ t.reg dst = s.reg src ∧ t.pc = s.pc + 1 ∧
      Frame { regs := [dst] } s t

/-- R112, R113. -/
def Obligations.LoadAndStoreThroughHL : Prop :=
  (∀ (i : Instr) (dst : Reg8), i.form = .ldFromHL dst →
    encode i = [0b01#2 ++ dst.code ++ 0b110#3] ∧
    ∀ s : State, ∃ t, exec i s = .next t ∧ t.reg dst = s.readMem s.hl ∧ t.pc = s.pc + 1 ∧
      Frame { regs := [dst] } s t) ∧
  ∀ (i : Instr) (src : Reg8), i.form = .ldToHL src →
    encode i = [0b01110#5 ++ src.code] ∧
    ∀ s : State, ∃ t, exec i s = .next t ∧ t.readMem s.hl = s.reg src ∧ t.pc = s.pc + 1 ∧
      Frame { stores := [s.hl] } s t

/-- R114, R115. -/
def Obligations.LoadByteImmediate : Prop :=
  (∀ (i : Instr) (dst : Reg8) (n : Byte), i.form = .ldImm dst n →
    encode i = [0b00#2 ++ dst.code ++ 0b110#3, n] ∧
    ∀ s : State, ∃ t, exec i s = .next t ∧ t.reg dst = n ∧ t.pc = s.pc + 2 ∧
      Frame { regs := [dst] } s t) ∧
  ∀ n : Byte, encode (.ld_atHL_n n) = [0x36, n] ∧
    ∀ s : State, ∃ t, exec (.ld_atHL_n n) s = .next t ∧ t.readMem s.hl = n ∧ t.pc = s.pc + 2 ∧
      Frame { stores := [s.hl] } s t

/-- R116: the first immediate byte is the low one. -/
def Obligations.LoadPairImmediate : Prop :=
  ∀ (i : Instr) (p : RP) (nn : Word), i.form = .ldPairImm p nn →
    encode i = [0b00#2 ++ p.code ++ 0b0001#4, loByte nn, hiByte nn] ∧
    ∀ s : State, ∃ t, exec i s = .next t ∧ t.rp p = nn ∧ t.pc = s.pc + 3 ∧
      Frame { regs := p.regs, sp := p == .sp } s t

/-- R117 to R122. -/
def Obligations.AccumulatorThroughPairOrAddress : Prop :=
  (encode .ld_atBC_A = [0x02] ∧ ∀ s : State, ∃ t, exec .ld_atBC_A s = .next t ∧
    t.readMem s.bc = s.a ∧ t.pc = s.pc + 1 ∧ Frame { stores := [s.bc] } s t) ∧
  (encode .ld_atDE_A = [0x12] ∧ ∀ s : State, ∃ t, exec .ld_atDE_A s = .next t ∧
    t.readMem s.de = s.a ∧ t.pc = s.pc + 1 ∧ Frame { stores := [s.de] } s t) ∧
  (encode .ld_A_atBC = [0x0A] ∧ ∀ s : State, ∃ t, exec .ld_A_atBC s = .next t ∧
    t.a = s.readMem s.bc ∧ t.pc = s.pc + 1 ∧ Frame { regs := [.a] } s t) ∧
  (encode .ld_A_atDE = [0x1A] ∧ ∀ s : State, ∃ t, exec .ld_A_atDE s = .next t ∧
    t.a = s.readMem s.de ∧ t.pc = s.pc + 1 ∧ Frame { regs := [.a] } s t) ∧
  (∀ nn : Word, encode (.ld_atNN_A nn) = [0xEA, loByte nn, hiByte nn] ∧
    ∀ s : State, ∃ t, exec (.ld_atNN_A nn) s = .next t ∧
      t.readMem nn = s.a ∧ t.pc = s.pc + 3 ∧ Frame { stores := [nn] } s t) ∧
  ∀ nn : Word, encode (.ld_A_atNN nn) = [0xFA, loByte nn, hiByte nn] ∧
    ∀ s : State, ∃ t, exec (.ld_A_atNN nn) s = .next t ∧
      t.a = s.readMem nn ∧ t.pc = s.pc + 3 ∧ Frame { regs := [.a] } s t

/-- R124 to R127: the high page. -/
def Obligations.AccumulatorThroughHighPage : Prop :=
  (∀ n : Byte, encode (.ldh_atN_A n) = [0xE0, n] ∧
    ∀ s : State, ∃ t, exec (.ldh_atN_A n) s = .next t ∧
      t.readMem (0xFF00 + n.setWidth 16) = s.a ∧ t.pc = s.pc + 2 ∧
      Frame { stores := [0xFF00 + n.setWidth 16] } s t) ∧
  (∀ n : Byte, encode (.ldh_A_atN n) = [0xF0, n] ∧
    ∀ s : State, ∃ t, exec (.ldh_A_atN n) s = .next t ∧
      t.a = s.readMem (0xFF00 + n.setWidth 16) ∧ t.pc = s.pc + 2 ∧ Frame { regs := [.a] } s t) ∧
  (encode .ld_atC_A = [0xE2] ∧ ∀ s : State, ∃ t, exec .ld_atC_A s = .next t ∧
    t.readMem (0xFF00 + s.c.setWidth 16) = s.a ∧ t.pc = s.pc + 1 ∧
    Frame { stores := [0xFF00 + s.c.setWidth 16] } s t) ∧
  encode .ld_A_atC = [0xF2] ∧ ∀ s : State, ∃ t, exec .ld_A_atC s = .next t ∧
    t.a = s.readMem (0xFF00 + s.c.setWidth 16) ∧ t.pc = s.pc + 1 ∧ Frame { regs := [.a] } s t

/-- R128, R129: the second stored byte's address wraps. -/
def Obligations.StackPointerLoads : Prop :=
  (encode .ld_SP_HL = [0xF9] ∧ ∀ s : State, ∃ t, exec .ld_SP_HL s = .next t ∧
    t.sp = s.hl ∧ t.pc = s.pc + 1 ∧ Frame { sp := true } s t) ∧
  ∀ nn : Word, encode (.ld_atNN_SP nn) = [0x08, loByte nn, hiByte nn] ∧
    ∀ s : State, ∃ t, exec (.ld_atNN_SP nn) s = .next t ∧
      t.readMem nn = loByte s.sp ∧ t.readMem (nn + 1) = hiByte s.sp ∧ t.pc = s.pc + 3 ∧
      Frame { stores := [nn, nn + 1] } s t

/-- R130 to R133: transfer at the old `HL`, then step it. -/
def Obligations.SteppingLoadsAndStores : Prop :=
  (encode .ld_atHLinc_A = [0x22] ∧ ∀ s : State, ∃ t, exec .ld_atHLinc_A s = .next t ∧
    t.readMem s.hl = s.a ∧ t.hl = s.hl + 1 ∧ t.pc = s.pc + 1 ∧
    Frame { regs := [.h, .l], stores := [s.hl] } s t) ∧
  (encode .ld_A_atHLinc = [0x2A] ∧ ∀ s : State, ∃ t, exec .ld_A_atHLinc s = .next t ∧
    t.a = s.readMem s.hl ∧ t.hl = s.hl + 1 ∧ t.pc = s.pc + 1 ∧ Frame { regs := [.a, .h, .l] } s t) ∧
  (encode .ld_atHLdec_A = [0x32] ∧ ∀ s : State, ∃ t, exec .ld_atHLdec_A s = .next t ∧
    t.readMem s.hl = s.a ∧ t.hl = s.hl - 1 ∧ t.pc = s.pc + 1 ∧
    Frame { regs := [.h, .l], stores := [s.hl] } s t) ∧
  encode .ld_A_atHLdec = [0x3A] ∧ ∀ s : State, ∃ t, exec .ld_A_atHLdec s = .next t ∧
    t.a = s.readMem s.hl ∧ t.hl = s.hl - 1 ∧ t.pc = s.pc + 1 ∧ Frame { regs := [.a, .h, .l] } s t

/-! ### Increment and decrement -/

/-- R140 to R143: C is unchanged. -/
def Obligations.IncrementAndDecrementByte : Prop :=
  (∀ (i : Instr) (o : Loc8), i.form = .inc8 o →
    encode i = [0b00#2 ++ o.code ++ 0b100#3] ∧
    ∀ s : State, ∃ t, exec i s = .next t ∧ t.loc o = s.loc o + 1 ∧
      t.flag .z = decide (s.loc o + 1 = 0) ∧ t.flag .n = false ∧
      t.flag .h = decide ((s.loc o).toNat % 16 = 0xF) ∧ t.pc = s.pc + 1 ∧
      Frame { regs := o.regs, stores := o.stores s, flags := [.z, .n, .h] } s t) ∧
  ∀ (i : Instr) (o : Loc8), i.form = .dec8 o →
    encode i = [0b00#2 ++ o.code ++ 0b101#3] ∧
    ∀ s : State, ∃ t, exec i s = .next t ∧ t.loc o = s.loc o - 1 ∧
      t.flag .z = decide (s.loc o - 1 = 0) ∧ t.flag .n = true ∧
      t.flag .h = decide ((s.loc o).toNat % 16 = 0) ∧ t.pc = s.pc + 1 ∧
      Frame { regs := o.regs, stores := o.stores s, flags := [.z, .n, .h] } s t

/-- R144, R145: no flag is written. -/
def Obligations.StepPair : Prop :=
  (∀ (i : Instr) (p : RP), i.form = .inc16 p →
    encode i = [0b00#2 ++ p.code ++ 0b0011#4] ∧
    ∀ s : State, ∃ t, exec i s = .next t ∧ t.rp p = s.rp p + 1 ∧ t.pc = s.pc + 1 ∧
      Frame { regs := p.regs, sp := p == .sp } s t) ∧
  ∀ (i : Instr) (p : RP), i.form = .dec16 p →
    encode i = [0b00#2 ++ p.code ++ 0b1011#4] ∧
    ∀ s : State, ∃ t, exec i s = .next t ∧ t.rp p = s.rp p - 1 ∧ t.pc = s.pc + 1 ∧
      Frame { regs := p.regs, sp := p == .sp } s t

/-! ### 8-bit arithmetic and logic -/

/-- R150: the bytes, the operand and the length of every ALU instruction. -/
def Obligations.AluOperandSelection : Prop :=
  ∀ (i : Instr) (op : AluOp) (v : Src8), i.form = .alu op v →
    (∀ r, v = .loc (.reg r) → encode i = [0b10#2 ++ op.code ++ r.code] ∧
      ∀ s : State, s.src v = s.reg r ∧ ∃ t, exec i s = .next t ∧ t.pc = s.pc + 1) ∧
    (v = .loc .atHL → encode i = [0b10#2 ++ op.code ++ 0b110#3] ∧
      ∀ s : State, s.src v = s.readMem s.hl ∧ ∃ t, exec i s = .next t ∧ t.pc = s.pc + 1) ∧
    (∀ n, v = .imm n → encode i = [0b11#2 ++ op.code ++ 0b110#3, n] ∧
      ∀ s : State, s.src v = n ∧ ∃ t, exec i s = .next t ∧ t.pc = s.pc + 2)

/-- R154, R155. -/
def Obligations.AddAndAddWithCarry : Prop :=
  (∀ (i : Instr) (v : Src8), i.form = .alu .add v →
    (∀ o, v = .loc o → encode i = [0b10000#5 ++ o.code]) ∧ (∀ n, v = .imm n → encode i = [0xC6, n]) ∧
    ∀ s : State, ∃ t, exec i s = .next t ∧
    t.a.toNat = (s.a.toNat + (s.src v).toNat) % 256 ∧
    t.flag .z = decide ((s.a.toNat + (s.src v).toNat) % 256 = 0) ∧ t.flag .n = false ∧
    t.flag .h = decide (s.a.toNat % 16 + (s.src v).toNat % 16 > 0xF) ∧
    t.flag .c = decide (s.a.toNat + (s.src v).toNat > 0xFF) ∧
    t.pc = s.pc + BitVec.ofNat 16 (encode i).length ∧
    Frame { regs := [.a], flags := [.z, .n, .h, .c] } s t) ∧
  ∀ (i : Instr) (v : Src8), i.form = .alu .adc v →
    (∀ o, v = .loc o → encode i = [0b10001#5 ++ o.code]) ∧ (∀ n, v = .imm n → encode i = [0xCE, n]) ∧
    ∀ (s : State) (c : Nat),
    c = (if s.flag .c then 1 else 0) → ∃ t, exec i s = .next t ∧
    t.a.toNat = (s.a.toNat + (s.src v).toNat + c) % 256 ∧
    t.flag .z = decide ((s.a.toNat + (s.src v).toNat + c) % 256 = 0) ∧ t.flag .n = false ∧
    t.flag .h = decide (s.a.toNat % 16 + (s.src v).toNat % 16 + c > 0xF) ∧
    t.flag .c = decide (s.a.toNat + (s.src v).toNat + c > 0xFF) ∧
    t.pc = s.pc + BitVec.ofNat 16 (encode i).length ∧
    Frame { regs := [.a], flags := [.z, .n, .h, .c] } s t

/-- R156, R157, R160: `CP` writes the flags of `SUB` and leaves `A`. -/
def Obligations.SubtractAndCompare : Prop :=
  (∀ (i : Instr) (v : Src8), i.form = .alu .sub v →
    (∀ o, v = .loc o → encode i = [0b10010#5 ++ o.code]) ∧ (∀ n, v = .imm n → encode i = [0xD6, n]) ∧
    ∀ s : State, ∃ t, exec i s = .next t ∧
    (t.a.toNat : Int) = ((s.a.toNat : Int) - (s.src v).toNat) % 256 ∧
    t.flag .z = decide (s.a = s.src v) ∧ t.flag .n = true ∧
    t.flag .h = decide (s.a.toNat % 16 < (s.src v).toNat % 16) ∧
    t.flag .c = decide (s.a.toNat < (s.src v).toNat) ∧
    t.pc = s.pc + BitVec.ofNat 16 (encode i).length ∧
    Frame { regs := [.a], flags := [.z, .n, .h, .c] } s t) ∧
  (∀ (i : Instr) (v : Src8), i.form = .alu .sbc v →
    (∀ o, v = .loc o → encode i = [0b10011#5 ++ o.code]) ∧ (∀ n, v = .imm n → encode i = [0xDE, n]) ∧
    ∀ (s : State) (c : Nat),
    c = (if s.flag .c then 1 else 0) → ∃ t, exec i s = .next t ∧
    (t.a.toNat : Int) = ((s.a.toNat : Int) - (s.src v).toNat - c) % 256 ∧
    t.flag .z = decide (((s.a.toNat : Int) - (s.src v).toNat - c) % 256 = 0) ∧ t.flag .n = true ∧
    t.flag .h = decide (s.a.toNat % 16 < (s.src v).toNat % 16 + c) ∧
    t.flag .c = decide (s.a.toNat < (s.src v).toNat + c) ∧
    t.pc = s.pc + BitVec.ofNat 16 (encode i).length ∧
    Frame { regs := [.a], flags := [.z, .n, .h, .c] } s t) ∧
  ∀ (i : Instr) (v : Src8), i.form = .alu .cp v →
    (∀ o, v = .loc o → encode i = [0b10111#5 ++ o.code]) ∧ (∀ n, v = .imm n → encode i = [0xFE, n]) ∧
    ∀ s : State, ∃ t, exec i s = .next t ∧
    t.flag .z = decide (s.a = s.src v) ∧ t.flag .n = true ∧
    t.flag .h = decide (s.a.toNat % 16 < (s.src v).toNat % 16) ∧
    t.flag .c = decide (s.a.toNat < (s.src v).toNat) ∧
    t.pc = s.pc + BitVec.ofNat 16 (encode i).length ∧
    Frame { flags := [.z, .n, .h, .c] } s t

/-- R151, R158, R159. -/
def Obligations.BitwiseLogic : Prop :=
  (∀ (i : Instr) (v : Src8), i.form = .alu .and v →
    (∀ o, v = .loc o → encode i = [0b10100#5 ++ o.code]) ∧ (∀ n, v = .imm n → encode i = [0xE6, n]) ∧
    ∀ s : State, ∃ t, exec i s = .next t ∧
    t.a = s.a &&& s.src v ∧ t.flag .z = decide (t.a = 0) ∧ t.flag .n = false ∧ t.flag .h = true ∧
    t.flag .c = false ∧ t.pc = s.pc + BitVec.ofNat 16 (encode i).length ∧
    Frame { regs := [.a], flags := [.z, .n, .h, .c] } s t) ∧
  (∀ (i : Instr) (v : Src8), i.form = .alu .xor v →
    (∀ o, v = .loc o → encode i = [0b10101#5 ++ o.code]) ∧ (∀ n, v = .imm n → encode i = [0xEE, n]) ∧
    ∀ s : State, ∃ t, exec i s = .next t ∧
    t.a = s.a ^^^ s.src v ∧ t.flag .z = decide (t.a = 0) ∧ t.flag .n = false ∧ t.flag .h = false ∧
    t.flag .c = false ∧ t.pc = s.pc + BitVec.ofNat 16 (encode i).length ∧
    Frame { regs := [.a], flags := [.z, .n, .h, .c] } s t) ∧
  ∀ (i : Instr) (v : Src8), i.form = .alu .or v →
    (∀ o, v = .loc o → encode i = [0b10110#5 ++ o.code]) ∧ (∀ n, v = .imm n → encode i = [0xF6, n]) ∧
    ∀ s : State, ∃ t, exec i s = .next t ∧
    t.a = s.a ||| s.src v ∧ t.flag .z = decide (t.a = 0) ∧ t.flag .n = false ∧ t.flag .h = false ∧
    t.flag .c = false ∧ t.pc = s.pc + BitVec.ofNat 16 (encode i).length ∧
    Frame { regs := [.a], flags := [.z, .n, .h, .c] } s t

/-- R161: N is unchanged; both tests of the additive arm use the old `A`. -/
def Obligations.DecimalAdjust : Prop :=
  encode .daa = [0x27] ∧
  ∀ s : State, ∃ t, exec .daa s = .next t ∧
    (s.flag .n = false →
      let low := s.flag .h = true ∨ s.a.toNat % 16 > 9
      let high := s.flag .c = true ∨ s.a.toNat > 0x99
      (low → high → t.a.toNat = (s.a.toNat + 0x66) % 256) ∧
      (low → ¬ high → t.a.toNat = (s.a.toNat + 0x06) % 256) ∧
      (¬ low → high → t.a.toNat = (s.a.toNat + 0x60) % 256) ∧
      (¬ low → ¬ high → t.a = s.a) ∧
      (t.flag .c = true ↔ high)) ∧
    (s.flag .n = true →
      (t.a.toNat : Int) = ((s.a.toNat : Int) - (if s.flag .h then 0x06 else 0)
        - (if s.flag .c then 0x60 else 0)) % 256 ∧
      t.flag .c = s.flag .c) ∧
    t.flag .z = decide (t.a = 0) ∧ t.flag .h = false ∧ t.pc = s.pc + 1 ∧
    Frame { regs := [.a], flags := [.z, .h, .c] } s t

/-- R162, R163, R164. -/
def Obligations.ComplementAndCarryFlag : Prop :=
  (encode .cpl = [0x2F] ∧ ∀ s : State, ∃ t, exec .cpl s = .next t ∧ t.a = ~~~s.a ∧
    t.flag .n = true ∧ t.flag .h = true ∧ t.pc = s.pc + 1 ∧
    Frame { regs := [.a], flags := [.n, .h] } s t) ∧
  (encode .scf = [0x37] ∧ ∀ s : State, ∃ t, exec .scf s = .next t ∧ t.flag .n = false ∧
    t.flag .h = false ∧ t.flag .c = true ∧ t.pc = s.pc + 1 ∧
    Frame { flags := [.n, .h, .c] } s t) ∧
  encode .ccf = [0x3F] ∧ ∀ s : State, ∃ t, exec .ccf s = .next t ∧ t.flag .n = false ∧
    t.flag .h = false ∧ t.flag .c = !s.flag .c ∧ t.pc = s.pc + 1 ∧
    Frame { flags := [.n, .h, .c] } s t

/-! ### Bit test, rotates, shifts -/

/-- R181 to R184: the carry flag receives bit 7; Z, N and H follow `ROT_FLAGS`. -/
def Obligations.RotateLeft : Prop :=
  (∀ (i : Instr) (o : Loc8), i.form = .rot .rlc o → encode i = [0xCB, 0b00000#5 ++ o.code] ∧
    ∀ s : State, ∃ t, exec i s = .next t ∧ t.loc o = (s.loc o).rotateLeft 1 ∧
      t.flag .c = (s.loc o).getLsbD 7 ∧ t.pc = s.pc + 2 ∧
      (s.config.rotFlags = .gb → Frame { regs := o.regs, stores := o.stores s, flags := [.c] } s t) ∧
      (s.config.rotFlags = .lr35902 →
        t.flag .z = decide ((s.loc o).rotateLeft 1 = 0) ∧ t.flag .n = false ∧ t.flag .h = false) ∧
      Frame { regs := o.regs, stores := o.stores s, flags := [.z, .n, .h, .c] } s t) ∧
  (∀ (i : Instr) (o : Loc8), i.form = .rot .rl o → encode i = [0xCB, 0b00010#5 ++ o.code] ∧
    ∀ (s : State) (res : Byte), res = s.loc o <<< 1 ||| (if s.flag .c then 1 else 0) →
      ∃ t, exec i s = .next t ∧ t.loc o = res ∧
      t.flag .c = (s.loc o).getLsbD 7 ∧ t.pc = s.pc + 2 ∧
      (s.config.rotFlags = .gb → Frame { regs := o.regs, stores := o.stores s, flags := [.c] } s t) ∧
      (s.config.rotFlags = .lr35902 →
        t.flag .z = decide (res = 0) ∧ t.flag .n = false ∧ t.flag .h = false) ∧
      Frame { regs := o.regs, stores := o.stores s, flags := [.z, .n, .h, .c] } s t) ∧
  (encode .rlca = [0x07] ∧ ∀ s : State, ∃ t, exec .rlca s = .next t ∧
    t.a = s.a.rotateLeft 1 ∧ t.flag .c = s.a.getLsbD 7 ∧ t.pc = s.pc + 1 ∧
    (s.config.rotFlags = .gb → Frame { regs := [.a], flags := [.c] } s t) ∧
    (s.config.rotFlags = .lr35902 →
      t.flag .z = false ∧ t.flag .n = false ∧ t.flag .h = false) ∧
    Frame { regs := [.a], flags := [.z, .n, .h, .c] } s t) ∧
  encode .rla = [0x17] ∧ ∀ s : State, ∃ t, exec .rla s = .next t ∧
    t.a = s.a <<< 1 ||| (if s.flag .c then 1 else 0) ∧ t.flag .c = s.a.getLsbD 7 ∧
    t.pc = s.pc + 1 ∧
    (s.config.rotFlags = .gb → Frame { regs := [.a], flags := [.c] } s t) ∧
    (s.config.rotFlags = .lr35902 →
      t.flag .z = false ∧ t.flag .n = false ∧ t.flag .h = false) ∧
    Frame { regs := [.a], flags := [.z, .n, .h, .c] } s t

/-- R186 to R191: the result, and the carry flag. -/
def Obligations.RotateRightShiftSwap : Prop :=
  ∀ (i : Instr) (op : RotOp) (o : Loc8), i.form = .rot op o → op ≠ .rlc → op ≠ .rl →
    encode i = [0xCB, 0b00#2 ++ op.code ++ o.code] ∧
    ∀ (s : State) (v : Byte), v = s.loc o → ∃ t, exec i s = .next t ∧
      (op = .rrc → t.loc o = v.rotateRight 1 ∧ t.flag .c = v.getLsbD 0) ∧
      (op = .rr → t.loc o = (v >>> 1 ||| (if s.flag .c then 0x80 else 0)) ∧
        t.flag .c = v.getLsbD 0) ∧
      (op = .sla → t.loc o = v <<< 1 ∧ t.flag .c = v.getLsbD 7) ∧
      (op = .sra → t.loc o = v.sshiftRight 1 ∧ t.flag .c = v.getLsbD 0) ∧
      (op = .swap → t.loc o = v.rotateLeft 4 ∧ t.flag .c = false) ∧
      (op = .srl → t.loc o = v >>> 1 ∧ t.flag .c = v.getLsbD 0) ∧
      t.flag .z = decide (t.loc o = 0) ∧ t.flag .n = false ∧ t.flag .h = false ∧
      t.pc = s.pc + 2 ∧
      Frame { regs := o.regs, stores := o.stores s, flags := [.z, .n, .h, .c] } s t

/-- R194, R195: Z is forced to 0. -/
def Obligations.RotateAccumulatorRight : Prop :=
  (encode .rrca = [0x0F] ∧ ∀ s : State, ∃ t, exec .rrca s = .next t ∧
    t.a = s.a.rotateRight 1 ∧ t.flag .c = s.a.getLsbD 0 ∧ t.flag .z = false ∧ t.flag .n = false ∧
    t.flag .h = false ∧ t.pc = s.pc + 1 ∧
    Frame { regs := [.a], flags := [.z, .n, .h, .c] } s t) ∧
  encode .rra = [0x1F] ∧ ∀ s : State, ∃ t, exec .rra s = .next t ∧
    t.a = (s.a >>> 1 ||| (if s.flag .c then 0x80 else 0)) ∧ t.flag .c = s.a.getLsbD 0 ∧
    t.flag .z = false ∧ t.flag .n = false ∧ t.flag .h = false ∧ t.pc = s.pc + 1 ∧
    Frame { regs := [.a], flags := [.z, .n, .h, .c] } s t

/-- R185: the operand and C are unchanged. R192, R193: bit y of the operand is cleared or set, and no
other. -/
def Obligations.BitTestResetAndSet : Prop :=
  (∀ (i : Instr) (y : Fin 8) (o : Loc8), i.form = .bit y o →
    encode i = [0xCB, 0b01#2 ++ BitVec.ofNat 3 y.val ++ o.code] ∧
    ∀ s : State, ∃ t, exec i s = .next t ∧ t.flag .z = !(s.loc o).getLsbD y.val ∧
      t.flag .n = false ∧ t.flag .h = true ∧ t.pc = s.pc + 2 ∧ Frame { flags := [.z, .n, .h] } s t) ∧
  (∀ (i : Instr) (y : Fin 8) (o : Loc8), i.form = .res y o →
    encode i = [0xCB, 0b10#2 ++ BitVec.ofNat 3 y.val ++ o.code] ∧
    ∀ s : State, ∃ t, exec i s = .next t ∧
      (∀ k : Fin 8, (t.loc o).getLsbD k.val = if k = y then false else (s.loc o).getLsbD k.val) ∧
      t.pc = s.pc + 2 ∧ Frame { regs := o.regs, stores := o.stores s } s t) ∧
  ∀ (i : Instr) (y : Fin 8) (o : Loc8), i.form = .set y o →
    encode i = [0xCB, 0b11#2 ++ BitVec.ofNat 3 y.val ++ o.code] ∧
    ∀ s : State, ∃ t, exec i s = .next t ∧
      (∀ k : Fin 8, (t.loc o).getLsbD k.val = if k = y then true else (s.loc o).getLsbD k.val) ∧
      t.pc = s.pc + 2 ∧ Frame { regs := o.regs, stores := o.stores s } s t

/-! ### Jumps -/

/-- R69, R200, R201: relative to the next instruction's address. -/
def Obligations.RelativeJumps : Prop :=
  (∀ s : State, s.cond .nz = !s.flag .z ∧ s.cond .z = s.flag .z ∧ s.cond .nc = !s.flag .c ∧
    s.cond .c = s.flag .c) ∧
  (∀ d : Byte, encode (.jr_d d) = [0x18, d] ∧
    ∀ s : State, ∃ t, exec (.jr_d d) s = .next t ∧ t.pc = s.pc + 2 + d.signExtend 16 ∧
      Frame {} s t) ∧
  ∀ (i : Instr) (k : Cond) (d : Byte), i.form = .jrIf k d →
    encode i = [0b001#3 ++ k.code ++ 0b000#3, d] ∧
    ∀ s : State, ∃ t, exec i s = .next t ∧
      t.pc = (if s.cond k then s.pc + 2 + d.signExtend 16 else s.pc + 2) ∧ Frame {} s t

/-- R202, R203, R204. -/
def Obligations.AbsoluteJumps : Prop :=
  (∀ nn : Word, encode (.jp_nn nn) = [0xC3, loByte nn, hiByte nn] ∧
    ∀ s : State, ∃ t, exec (.jp_nn nn) s = .next t ∧ t.pc = nn ∧ Frame {} s t) ∧
  (∀ (i : Instr) (k : Cond) (nn : Word), i.form = .jpIf k nn →
    encode i = [0b110#3 ++ k.code ++ 0b010#3, loByte nn, hiByte nn] ∧
    ∀ s : State, ∃ t, exec i s = .next t ∧ t.pc = (if s.cond k then nn else s.pc + 3) ∧
      Frame {} s t) ∧
  encode .jp_HL = [0xE9] ∧ ∀ s : State, ∃ t, exec .jp_HL s = .next t ∧ t.pc = s.hl ∧ Frame {} s t

/-! ### Stack, call, return -/

/-- R210, R211: high byte first. -/
def Obligations.PushAndPop : Prop :=
  (∀ (i : Instr) (q : RP2), i.form = .push q → encode i = [0b11#2 ++ q.code ++ 0b0101#4] ∧
    ∀ s : State, ∃ t, exec i s = .next t ∧ t.readMem (s.sp - 1) = hiByte (s.rp2 q) ∧
      t.readMem (s.sp - 2) = loByte (s.rp2 q) ∧ t.sp = s.sp - 2 ∧ t.pc = s.pc + 1 ∧
      Frame { stores := [s.sp - 1, s.sp - 2], sp := true } s t) ∧
  ∀ (i : Instr) (q : RP2), i.form = .pop q → q ≠ .af →
    encode i = [0b11#2 ++ q.code ++ 0b0001#4] ∧
    ∀ s : State, ∃ t, exec i s = .next t ∧
      t.rp2 q = mkWord (s.readMem (s.sp + 1)) (s.readMem s.sp) ∧ t.sp = s.sp + 2 ∧
      t.pc = s.pc + 1 ∧ Frame { regs := q.regs, sp := true } s t

/-- R212: the low nibble of `F` is masked, by the spec's own inference ("derived: from rule R15"). -/
def Obligations.PopAFMasksTheFlagsByte : Prop :=
  encode .pop_AF = [0xF1] ∧ ∀ s : State, ∃ t, exec .pop_AF s = .next t ∧
    t.a = s.readMem (s.sp + 1) ∧ t.f = s.readMem s.sp &&& 0xF0 ∧ t.sp = s.sp + 2 ∧
    t.pc = s.pc + 1 ∧ Frame { regs := [.a], flags := [.z, .n, .h, .c], low := true, sp := true } s t

/-- R213, R215, R221: the return address is that of the next instruction; nothing is pushed when the
condition is false; `RST` is a one-byte call to `y * 8`. -/
def Obligations.CallsAndRestart : Prop :=
  (∀ nn : Word, encode (.call_nn nn) = [0xCD, loByte nn, hiByte nn] ∧
    ∀ s : State, ∃ t, exec (.call_nn nn) s = .next t ∧ t.pc = nn ∧
      t.readMem (s.sp - 1) = hiByte (s.pc + 3) ∧ t.readMem (s.sp - 2) = loByte (s.pc + 3) ∧
      t.sp = s.sp - 2 ∧ Frame { stores := [s.sp - 1, s.sp - 2], sp := true } s t) ∧
  (∀ (i : Instr) (k : Cond) (nn : Word), i.form = .callIf k nn →
    encode i = [0b110#3 ++ k.code ++ 0b100#3, loByte nn, hiByte nn] ∧
    (∀ s : State, s.cond k = true → ∃ t, exec i s = .next t ∧ t.pc = nn ∧
      t.readMem (s.sp - 1) = hiByte (s.pc + 3) ∧ t.readMem (s.sp - 2) = loByte (s.pc + 3) ∧
      t.sp = s.sp - 2 ∧ Frame { stores := [s.sp - 1, s.sp - 2], sp := true } s t) ∧
    ∀ s : State, s.cond k = false → ∃ t, exec i s = .next t ∧ t.pc = s.pc + 3 ∧ Frame {} s t) ∧
  ∀ (i : Instr) (y : Fin 8), i.form = .rst y →
    encode i = [0b11#2 ++ BitVec.ofNat 3 y.val ++ 0b111#3] ∧
    ∀ s : State, ∃ t, exec i s = .next t ∧ t.pc.toNat = y.val * 8 ∧
      t.readMem (s.sp - 1) = hiByte (s.pc + 1) ∧ t.readMem (s.sp - 2) = loByte (s.pc + 1) ∧
      t.sp = s.sp - 2 ∧ Frame { stores := [s.sp - 1, s.sp - 2], sp := true } s t

/-- R216, R217, R220. -/
def Obligations.Returns : Prop :=
  (encode .ret = [0xC9] ∧ ∀ s : State, ∃ t, exec .ret s = .next t ∧
    t.pc = mkWord (s.readMem (s.sp + 1)) (s.readMem s.sp) ∧ t.sp = s.sp + 2 ∧
    Frame { sp := true } s t) ∧
  (∀ (i : Instr) (k : Cond), i.form = .retIf k → encode i = [0b110#3 ++ k.code ++ 0b000#3] ∧
    (∀ s : State, s.cond k = true → ∃ t, exec i s = .next t ∧
      t.pc = mkWord (s.readMem (s.sp + 1)) (s.readMem s.sp) ∧ t.sp = s.sp + 2 ∧
      Frame { sp := true } s t) ∧
    ∀ s : State, s.cond k = false → ∃ t, exec i s = .next t ∧ t.pc = s.pc + 1 ∧ Frame {} s t) ∧
  encode .reti = [0xD9] ∧ ∀ s : State, ∃ t, exec .reti s = .next t ∧
    t.pc = mkWord (s.readMem (s.sp + 1)) (s.readMem s.sp) ∧ t.sp = s.sp + 2 ∧ t.ime = true ∧
    Frame { sp := true, ime := true } s t

/-! ### 16-bit addition -/

/-- R230: Z is unchanged. -/
def Obligations.AddPairToHL : Prop :=
  ∀ (i : Instr) (p : RP), i.form = .addHL p → encode i = [0b00#2 ++ p.code ++ 0b1001#4] ∧
    ∀ s : State, ∃ t, exec i s = .next t ∧
      t.hl.toNat = (s.hl.toNat + (s.rp p).toNat) % 65536 ∧ t.flag .n = false ∧
      t.flag .h = decide (s.hl.toNat % 4096 + (s.rp p).toNat % 4096 > 0xFFF) ∧
      t.flag .c = decide (s.hl.toNat + (s.rp p).toNat > 0xFFFF) ∧ t.pc = s.pc + 1 ∧
      Frame { regs := [.h, .l], flags := [.n, .h, .c] } s t

/-- R231, R232: H and C from the low bytes, `d` taken unsigned. -/
def Obligations.AddDisplacementToSP : Prop :=
  (∀ d : Byte, encode (.add_SP_d d) = [0xE8, d] ∧
    ∀ s : State, ∃ t, exec (.add_SP_d d) s = .next t ∧ t.sp = s.sp + d.signExtend 16 ∧
      t.flag .z = false ∧ t.flag .n = false ∧
      t.flag .h = decide (s.sp.toNat % 16 + d.toNat % 16 > 0xF) ∧
      t.flag .c = decide (s.sp.toNat % 256 + d.toNat > 0xFF) ∧ t.pc = s.pc + 2 ∧
      Frame { sp := true, flags := [.z, .n, .h, .c] } s t) ∧
  ∀ d : Byte, encode (.ld_HL_SPplusD d) = [0xF8, d] ∧
    ∀ s : State, ∃ t, exec (.ld_HL_SPplusD d) s = .next t ∧ t.hl = s.sp + d.signExtend 16 ∧
      t.flag .z = false ∧ t.flag .n = false ∧
      t.flag .h = decide (s.sp.toNat % 16 + d.toNat % 16 > 0xF) ∧
      t.flag .c = decide (s.sp.toNat % 256 + d.toNat > 0xFF) ∧ t.pc = s.pc + 2 ∧
      Frame { regs := [.h, .l], flags := [.z, .n, .h, .c] } s t

/-! ### System instructions, undefined bytes, the escape slot -/

/-- R240 to R243: each completes; `HALT` and `STOP` latch, and every later step does nothing and says so;
`DI` and `EI` write `ime` at once. -/
def Obligations.SystemInstructions : Prop :=
  (encode .halt = [0x76] ∧ ∀ s : State, ∃ t, exec .halt s = .next t ∧ t.halted = .halted ∧
    t.pc = s.pc + 1 ∧ Frame { halted := true } s t ∧
    (s.fault = none → latchStatus t = .ok ∧ runInstruction t = (.halted, t))) ∧
  (∀ n : Byte, encode (.stop n) = [0x10, n] ∧
    ∀ s : State, ∃ t, exec (.stop n) s = .next t ∧ t.halted = .stopped ∧ t.pc = s.pc + 2 ∧
      Frame { halted := true } s t ∧
      (s.fault = none → latchStatus t = .ok ∧ runInstruction t = (.stopped, t))) ∧
  (encode .di = [0xF3] ∧ ∀ s : State, ∃ t, exec .di s = .next t ∧ t.ime = false ∧
    t.pc = s.pc + 1 ∧ Frame { ime := true } s t) ∧
  encode .ei = [0xFB] ∧ ∀ s : State, ∃ t, exec .ei s = .next t ∧ t.ime = true ∧
    t.pc = s.pc + 1 ∧ Frame { ime := true } s t

/-- R244: the eleven undefined bytes raise `UnrecognizedOpcode`: nothing but the latch changes, no operand
byte is read, and `IMPL` does not apply. That `exec` and `step` answer the latched state as a next state is
the model's choice (log entry 4). -/
def Obligations.UndefinedBytesFault : Prop :=
  ∀ op ∈ ([0xD3, 0xDB, 0xDD, 0xE3, 0xE4, 0xEB, 0xEC, 0xED, 0xF4, 0xFC, 0xFD] : List Byte),
    (∀ rest, decode (op :: rest) = .ok ⟨.base, op⟩ (.illegal op) rest) ∧
    (∀ s : State, exec (.illegal op) s =
      .next { s with fault := some (.unrecognizedOpcode s.pc op) }) ∧
    ∀ s : State, s.Running → s.progRead s.pc = some op →
      step s = .next { s with fault := some (.unrecognizedOpcode s.pc op) } ∧
      runInstruction s = (.fault (.unrecognizedOpcode s.pc op),
        { s with fault := some (.unrecognizedOpcode s.pc op) })

/-- R245 (the spec's own inference, "derived: from rule R92"): the escape slot is never decoded. The model's own choice (log entry 9): its meaning is what R92
does on the byte, the instruction of table `cb` that the next byte names, or the fetch fault. -/
def Obligations.EscapeSlotReadsTheTrueOpcode : Prop :=
  (∀ bs slot rest, decode bs ≠ .ok slot .prefixCB rest) ∧
  (∀ (s : State) (op : Byte), s.progRead (s.pc + 1) = some op →
    ∃ i t, decode [0xCB, op] = .ok ⟨.cb, op⟩ i [] ∧ exec .prefixCB s = .next t ∧
      exec i s = .next t) ∧
  ∀ s : State, s.progRead (s.pc + 1) = none → exec .prefixCB s =
    .next { s with fault := some (.outOfBoundsProgramRead (s.pc + 1) s.pc) }
end

