-- ==== Sys2Proof/Laws/Bytes.lean ====
section
/-! SUPPORT. Bytes and words: splitting and merging are inverse (R13), and the operand a decoder hands on. -/

namespace Sys2Proof

@[simp] theorem mkWord_hiByte_loByte (v : Word) : mkWord (hiByte v) (loByte v) = v := by
  apply BitVec.eq_of_getLsbD_eq
  intro i h
  simp only [mkWord, hiByte, loByte, BitVec.getLsbD_or, BitVec.getLsbD_shiftLeft,
    BitVec.getLsbD_setWidth, BitVec.getLsbD_ushiftRight]
  by_cases h' : i < 8
  · simp [h']
    omega
  · have : 8 + (i - 8) = i := by omega
    have h8 : i - 8 < 8 := by omega
    have h16 : i - 8 < 16 := by omega
    simp [h', h, this, h8, h16]

@[simp] theorem hiByte_mkWord (hi lo : Byte) : hiByte (mkWord hi lo) = hi := by
  apply BitVec.eq_of_getLsbD_eq
  intro i h
  have h8 : 8 + i < 16 := by omega
  have h16 : i < 16 := by omega
  simp [mkWord, hiByte, h, h8, h16]

@[simp] theorem loByte_mkWord (hi lo : Byte) : loByte (mkWord hi lo) = lo := by
  apply BitVec.eq_of_getLsbD_eq
  intro i h
  simp [mkWord, loByte, h]

theorem mkWord_toNat (hi lo : Byte) : (mkWord hi lo).toNat = hi.toNat * 256 + lo.toNat := by
  have := hi.isLt
  have := lo.isLt
  simp only [mkWord, BitVec.toNat_or, BitVec.toNat_shiftLeft, BitVec.toNat_setWidth]
  rw [Nat.mod_eq_of_lt (by omega : hi.toNat < 2 ^ 16), Nat.mod_eq_of_lt (by omega : lo.toNat < 2 ^ 16),
    Nat.mod_eq_of_lt (by simp [Nat.shiftLeft_eq]; omega),
    ← Nat.shiftLeft_add_eq_or_of_lt (by omega)]
  simp [Nat.shiftLeft_eq]

@[simp] theorem loByte_zext16 (n : Byte) : loByte (zext16 n) = n := by simp [loByte, zext16]

end Sys2Proof
end

