-- ==== Sys2Proof/Laws/Alu.lean ====
section
/-! SUPPORT. What the arithmetic, the rotates and the bit operations of `Flags.lean` compute, said once in
the terms of the rules (R154 to R161, R181 to R195). -/

namespace Sys2Proof.Machine

/-- The sum modulo 256 (R154, R155). -/
theorem add8_value (a v : Byte) (cin : Bool) :
    (add8 a v cin).value.toNat = (a.toNat + v.toNat + carryNat cin) % 256 := by
  simp [add8]

/-- The difference modulo 256 (R156, R157). -/
theorem sub8_value (a v : Byte) (cin : Bool) :
    ((sub8 a v cin).value.toNat : Int) = ((a.toNat : Int) - v.toNat - carryNat cin) % 256 := by
  simp only [sub8, BitVec.toNat_ofInt]
  omega

/-- With no borrow in, the zero flag is equality (R156, R160). -/
theorem sub8_zero (a v : Byte) : (sub8 a v false).z = decide (a = v) := by
  have := a.isLt
  have := v.isLt
  rw [Bool.eq_iff_iff]
  simp only [sub8, carryNat, beq_iff_eq, decide_eq_true_eq]
  constructor
  · intro h
    apply BitVec.eq_of_toNat_eq
    simp at h
    omega
  · rintro rfl
    simp

/-- The two borrows (R156, R157, R160). -/
theorem sub8_borrows (a v : Byte) (cin : Bool) :
    (sub8 a v cin).h = decide (a.toNat % 16 < v.toNat % 16 + carryNat cin) ∧
    (sub8 a v cin).c = decide (a.toNat < v.toNat + carryNat cin) := by
  constructor
  · refine decide_eq_decide.mpr ?_
    simp only [lowNibble]
    omega
  · refine decide_eq_decide.mpr ?_
    omega

/-- `DAA` after an addition (R161). -/
theorem daa_add (a : Byte) (h c : Bool) :
    (daaValue a false h c).toNat = (a.toNat + (if h = true ∨ a.toNat % 16 > 9 then 6 else 0) +
      (if c = true ∨ a.toNat > 0x99 then 0x60 else 0)) % 256 ∧
    ((daaAdjust a false h c).2 = true ↔ (c = true ∨ a.toNat > 0x99)) := by
  simp only [daaValue, daaAdjust, lowNibble]
  cases h <;> cases c <;> simp [Nat.add_assoc]

/-- `DAA` after a subtraction (R161). -/
theorem daa_sub (a : Byte) (h c : Bool) :
    ((daaValue a true h c).toNat : Int) =
      ((a.toNat : Int) - (if h then 0x06 else 0) - (if c then 0x60 else 0)) % 256 ∧
    (daaAdjust a true h c).2 = c := by
  simp only [daaValue, daaAdjust, if_true, BitVec.toNat_ofInt, and_true]
  cases h <;> cases c <;> simp <;> omega

/-- The rotates and shifts as bit-vector operations (R181 to R191). -/
theorem rotate8_eq (v : Byte) (cin : Bool) :
    rotate8 .rlc v cin = (v.rotateLeft 1, v.getLsbD 7) ∧
    rotate8 .rrc v cin = (v.rotateRight 1, v.getLsbD 0) ∧
    rotate8 .rl v cin = (v <<< 1 ||| (if cin then 1 else 0), v.getLsbD 7) ∧
    rotate8 .rr v cin = (v >>> 1 ||| (if cin then 0x80 else 0), v.getLsbD 0) ∧
    rotate8 .sla v cin = (v <<< 1, v.getLsbD 7) ∧
    rotate8 .sra v cin = (v.sshiftRight 1, v.getLsbD 0) ∧
    rotate8 .swap v cin = (v.rotateLeft 4, false) ∧
    rotate8 .srl v cin = (v >>> 1, v.getLsbD 0) := by
  revert v cin
  decide +kernel

/-- Bit k after bit y is cleared or set (R192, R193). -/
theorem bit_reset_set (v : Byte) (y k : Fin 8) :
    (v &&& ~~~(1#8 <<< y.val)).getLsbD k.val = (if k = y then false else v.getLsbD k.val) ∧
    (v ||| (1#8 <<< y.val)).getLsbD k.val = (if k = y then true else v.getLsbD k.val) := by
  have hk := k.isLt
  have one : ∀ y k : Fin 8, (1#8 <<< y.val).getLsbD k.val = decide (k = y) := by decide +kernel
  rw [BitVec.getLsbD_and, BitVec.getLsbD_not, BitVec.getLsbD_or, one]
  by_cases h : k = y <;> simp [h]

/-- The word popped into `AF`, its low four bits cleared (R212). -/
theorem mkWord_maskFlags (hi lo : Byte) : mkWord hi (maskFlags lo) = mkWord hi lo &&& 0xFFF0 := by
  have low : ∀ lo : Byte, (maskFlags lo).setWidth 16 = lo.setWidth 16 &&& 0xFFF0#16 := by decide +kernel
  have high : ∀ hi : Byte, hi.setWidth 16 <<< 8 &&& 0xFFF0#16 = hi.setWidth 16 <<< 8 := by
    decide +kernel
  have split : ∀ x y m : Word, (x ||| y) &&& m = x &&& m ||| y &&& m := fun x y m => by
    ext i
    simp [Bool.and_or_distrib_right]
  rw [mkWord, mkWord, low, show (0xFFF0 : Word) = 0xFFF0#16 from rfl, split, high]

end Sys2Proof.Machine
end

