-- ==== Sys2Proof/Laws/State.lean ====
section
/-! SUPPORT. One lemma per field and state update, true by unfolding the update, so that no later proof
unfolds a record update; and the registers read after a register write. -/

namespace Sys2Proof.Machine

variable (s : State)

/-! #### setReg -/

@[simp] theorem setReg_f (r : Reg8) (v : Byte) : (s.setReg r v).f = s.f := by cases r <;> rfl
@[simp] theorem setReg_sp (r : Reg8) (v : Byte) : (s.setReg r v).sp = s.sp := by cases r <;> rfl
@[simp] theorem setReg_pc (r : Reg8) (v : Byte) : (s.setReg r v).pc = s.pc := by cases r <;> rfl
@[simp] theorem setReg_tickCount (r : Reg8) (v : Byte) : (s.setReg r v).tickCount = s.tickCount := by cases r <;> rfl
@[simp] theorem setReg_ime (r : Reg8) (v : Byte) : (s.setReg r v).ime = s.ime := by cases r <;> rfl
@[simp] theorem setReg_halted (r : Reg8) (v : Byte) : (s.setReg r v).halted = s.halted := by cases r <;> rfl
@[simp] theorem setReg_fault (r : Reg8) (v : Byte) : (s.setReg r v).fault = s.fault := by cases r <;> rfl
@[simp] theorem setReg_mem (r : Reg8) (v : Byte) : (s.setReg r v).mem = s.mem := by cases r <;> rfl
@[simp] theorem setReg_image (r : Reg8) (v : Byte) : (s.setReg r v).image = s.image := by cases r <;> rfl
@[simp] theorem setReg_config (r : Reg8) (v : Byte) : (s.setReg r v).config = s.config := by cases r <;> rfl

/-! #### writeMem -/

@[simp] theorem writeMem_a (addr : Word) (v : Byte) : (s.writeMem addr v).a = s.a := rfl
@[simp] theorem writeMem_b (addr : Word) (v : Byte) : (s.writeMem addr v).b = s.b := rfl
@[simp] theorem writeMem_c (addr : Word) (v : Byte) : (s.writeMem addr v).c = s.c := rfl
@[simp] theorem writeMem_d (addr : Word) (v : Byte) : (s.writeMem addr v).d = s.d := rfl
@[simp] theorem writeMem_e (addr : Word) (v : Byte) : (s.writeMem addr v).e = s.e := rfl
@[simp] theorem writeMem_h (addr : Word) (v : Byte) : (s.writeMem addr v).h = s.h := rfl
@[simp] theorem writeMem_l (addr : Word) (v : Byte) : (s.writeMem addr v).l = s.l := rfl
@[simp] theorem writeMem_f (addr : Word) (v : Byte) : (s.writeMem addr v).f = s.f := rfl
@[simp] theorem writeMem_sp (addr : Word) (v : Byte) : (s.writeMem addr v).sp = s.sp := rfl
@[simp] theorem writeMem_pc (addr : Word) (v : Byte) : (s.writeMem addr v).pc = s.pc := rfl
@[simp] theorem writeMem_tickCount (addr : Word) (v : Byte) : (s.writeMem addr v).tickCount = s.tickCount := rfl
@[simp] theorem writeMem_ime (addr : Word) (v : Byte) : (s.writeMem addr v).ime = s.ime := rfl
@[simp] theorem writeMem_halted (addr : Word) (v : Byte) : (s.writeMem addr v).halted = s.halted := rfl
@[simp] theorem writeMem_fault (addr : Word) (v : Byte) : (s.writeMem addr v).fault = s.fault := rfl
@[simp] theorem writeMem_mem (addr : Word) (v : Byte) : (s.writeMem addr v).mem = Memory.write s.mem addr.toNat v := rfl
@[simp] theorem writeMem_image (addr : Word) (v : Byte) : (s.writeMem addr v).image = s.image := rfl
@[simp] theorem writeMem_config (addr : Word) (v : Byte) : (s.writeMem addr v).config = s.config := rfl

/-! #### writeMem16 -/

@[simp] theorem writeMem16_a (addr v : Word) : (s.writeMem16 addr v).a = s.a := rfl
@[simp] theorem writeMem16_b (addr v : Word) : (s.writeMem16 addr v).b = s.b := rfl
@[simp] theorem writeMem16_c (addr v : Word) : (s.writeMem16 addr v).c = s.c := rfl
@[simp] theorem writeMem16_d (addr v : Word) : (s.writeMem16 addr v).d = s.d := rfl
@[simp] theorem writeMem16_e (addr v : Word) : (s.writeMem16 addr v).e = s.e := rfl
@[simp] theorem writeMem16_h (addr v : Word) : (s.writeMem16 addr v).h = s.h := rfl
@[simp] theorem writeMem16_l (addr v : Word) : (s.writeMem16 addr v).l = s.l := rfl
@[simp] theorem writeMem16_f (addr v : Word) : (s.writeMem16 addr v).f = s.f := rfl
@[simp] theorem writeMem16_sp (addr v : Word) : (s.writeMem16 addr v).sp = s.sp := rfl
@[simp] theorem writeMem16_pc (addr v : Word) : (s.writeMem16 addr v).pc = s.pc := rfl
@[simp] theorem writeMem16_tickCount (addr v : Word) : (s.writeMem16 addr v).tickCount = s.tickCount := rfl
@[simp] theorem writeMem16_ime (addr v : Word) : (s.writeMem16 addr v).ime = s.ime := rfl
@[simp] theorem writeMem16_halted (addr v : Word) : (s.writeMem16 addr v).halted = s.halted := rfl
@[simp] theorem writeMem16_fault (addr v : Word) : (s.writeMem16 addr v).fault = s.fault := rfl
@[simp] theorem writeMem16_mem (addr v : Word) : (s.writeMem16 addr v).mem = Memory.write (Memory.write s.mem addr.toNat (loByte v)) (addr + 1).toNat (hiByte v) := rfl
@[simp] theorem writeMem16_image (addr v : Word) : (s.writeMem16 addr v).image = s.image := rfl
@[simp] theorem writeMem16_config (addr v : Word) : (s.writeMem16 addr v).config = s.config := rfl

/-! #### setBC -/

@[simp] theorem setBC_a (v : Word) : (s.setBC v).a = s.a := rfl
@[simp] theorem setBC_b (v : Word) : (s.setBC v).b = hiByte v := rfl
@[simp] theorem setBC_c (v : Word) : (s.setBC v).c = loByte v := rfl
@[simp] theorem setBC_d (v : Word) : (s.setBC v).d = s.d := rfl
@[simp] theorem setBC_e (v : Word) : (s.setBC v).e = s.e := rfl
@[simp] theorem setBC_h (v : Word) : (s.setBC v).h = s.h := rfl
@[simp] theorem setBC_l (v : Word) : (s.setBC v).l = s.l := rfl
@[simp] theorem setBC_f (v : Word) : (s.setBC v).f = s.f := rfl
@[simp] theorem setBC_sp (v : Word) : (s.setBC v).sp = s.sp := rfl
@[simp] theorem setBC_pc (v : Word) : (s.setBC v).pc = s.pc := rfl
@[simp] theorem setBC_tickCount (v : Word) : (s.setBC v).tickCount = s.tickCount := rfl
@[simp] theorem setBC_ime (v : Word) : (s.setBC v).ime = s.ime := rfl
@[simp] theorem setBC_halted (v : Word) : (s.setBC v).halted = s.halted := rfl
@[simp] theorem setBC_fault (v : Word) : (s.setBC v).fault = s.fault := rfl
@[simp] theorem setBC_mem (v : Word) : (s.setBC v).mem = s.mem := rfl
@[simp] theorem setBC_image (v : Word) : (s.setBC v).image = s.image := rfl
@[simp] theorem setBC_config (v : Word) : (s.setBC v).config = s.config := rfl

/-! #### setDE -/

@[simp] theorem setDE_a (v : Word) : (s.setDE v).a = s.a := rfl
@[simp] theorem setDE_b (v : Word) : (s.setDE v).b = s.b := rfl
@[simp] theorem setDE_c (v : Word) : (s.setDE v).c = s.c := rfl
@[simp] theorem setDE_d (v : Word) : (s.setDE v).d = hiByte v := rfl
@[simp] theorem setDE_e (v : Word) : (s.setDE v).e = loByte v := rfl
@[simp] theorem setDE_h (v : Word) : (s.setDE v).h = s.h := rfl
@[simp] theorem setDE_l (v : Word) : (s.setDE v).l = s.l := rfl
@[simp] theorem setDE_f (v : Word) : (s.setDE v).f = s.f := rfl
@[simp] theorem setDE_sp (v : Word) : (s.setDE v).sp = s.sp := rfl
@[simp] theorem setDE_pc (v : Word) : (s.setDE v).pc = s.pc := rfl
@[simp] theorem setDE_tickCount (v : Word) : (s.setDE v).tickCount = s.tickCount := rfl
@[simp] theorem setDE_ime (v : Word) : (s.setDE v).ime = s.ime := rfl
@[simp] theorem setDE_halted (v : Word) : (s.setDE v).halted = s.halted := rfl
@[simp] theorem setDE_fault (v : Word) : (s.setDE v).fault = s.fault := rfl
@[simp] theorem setDE_mem (v : Word) : (s.setDE v).mem = s.mem := rfl
@[simp] theorem setDE_image (v : Word) : (s.setDE v).image = s.image := rfl
@[simp] theorem setDE_config (v : Word) : (s.setDE v).config = s.config := rfl

/-! #### setHL -/

@[simp] theorem setHL_a (v : Word) : (s.setHL v).a = s.a := rfl
@[simp] theorem setHL_b (v : Word) : (s.setHL v).b = s.b := rfl
@[simp] theorem setHL_c (v : Word) : (s.setHL v).c = s.c := rfl
@[simp] theorem setHL_d (v : Word) : (s.setHL v).d = s.d := rfl
@[simp] theorem setHL_e (v : Word) : (s.setHL v).e = s.e := rfl
@[simp] theorem setHL_h (v : Word) : (s.setHL v).h = hiByte v := rfl
@[simp] theorem setHL_l (v : Word) : (s.setHL v).l = loByte v := rfl
@[simp] theorem setHL_f (v : Word) : (s.setHL v).f = s.f := rfl
@[simp] theorem setHL_sp (v : Word) : (s.setHL v).sp = s.sp := rfl
@[simp] theorem setHL_pc (v : Word) : (s.setHL v).pc = s.pc := rfl
@[simp] theorem setHL_tickCount (v : Word) : (s.setHL v).tickCount = s.tickCount := rfl
@[simp] theorem setHL_ime (v : Word) : (s.setHL v).ime = s.ime := rfl
@[simp] theorem setHL_halted (v : Word) : (s.setHL v).halted = s.halted := rfl
@[simp] theorem setHL_fault (v : Word) : (s.setHL v).fault = s.fault := rfl
@[simp] theorem setHL_mem (v : Word) : (s.setHL v).mem = s.mem := rfl
@[simp] theorem setHL_image (v : Word) : (s.setHL v).image = s.image := rfl
@[simp] theorem setHL_config (v : Word) : (s.setHL v).config = s.config := rfl

/-! #### push16 -/

@[simp] theorem push16_a (v : Word) : (s.push16 v).a = s.a := rfl
@[simp] theorem push16_b (v : Word) : (s.push16 v).b = s.b := rfl
@[simp] theorem push16_c (v : Word) : (s.push16 v).c = s.c := rfl
@[simp] theorem push16_d (v : Word) : (s.push16 v).d = s.d := rfl
@[simp] theorem push16_e (v : Word) : (s.push16 v).e = s.e := rfl
@[simp] theorem push16_h (v : Word) : (s.push16 v).h = s.h := rfl
@[simp] theorem push16_l (v : Word) : (s.push16 v).l = s.l := rfl
@[simp] theorem push16_f (v : Word) : (s.push16 v).f = s.f := rfl
@[simp] theorem push16_sp (v : Word) : (s.push16 v).sp = s.sp - 1 - 1 := rfl
@[simp] theorem push16_pc (v : Word) : (s.push16 v).pc = s.pc := rfl
@[simp] theorem push16_tickCount (v : Word) : (s.push16 v).tickCount = s.tickCount := rfl
@[simp] theorem push16_ime (v : Word) : (s.push16 v).ime = s.ime := rfl
@[simp] theorem push16_halted (v : Word) : (s.push16 v).halted = s.halted := rfl
@[simp] theorem push16_fault (v : Word) : (s.push16 v).fault = s.fault := rfl
@[simp] theorem push16_mem (v : Word) : (s.push16 v).mem = Memory.write (Memory.write s.mem (s.sp - 1).toNat (hiByte v)) (s.sp - 1 - 1).toNat (loByte v) := rfl
@[simp] theorem push16_image (v : Word) : (s.push16 v).image = s.image := rfl
@[simp] theorem push16_config (v : Word) : (s.push16 v).config = s.config := rfl

/-! #### drop16 -/

@[simp] theorem drop16_a : (s.drop16).a = s.a := rfl
@[simp] theorem drop16_b : (s.drop16).b = s.b := rfl
@[simp] theorem drop16_c : (s.drop16).c = s.c := rfl
@[simp] theorem drop16_d : (s.drop16).d = s.d := rfl
@[simp] theorem drop16_e : (s.drop16).e = s.e := rfl
@[simp] theorem drop16_h : (s.drop16).h = s.h := rfl
@[simp] theorem drop16_l : (s.drop16).l = s.l := rfl
@[simp] theorem drop16_f : (s.drop16).f = s.f := rfl
@[simp] theorem drop16_sp : (s.drop16).sp = s.sp + 1 + 1 := rfl
@[simp] theorem drop16_pc : (s.drop16).pc = s.pc := rfl
@[simp] theorem drop16_tickCount : (s.drop16).tickCount = s.tickCount := rfl
@[simp] theorem drop16_ime : (s.drop16).ime = s.ime := rfl
@[simp] theorem drop16_halted : (s.drop16).halted = s.halted := rfl
@[simp] theorem drop16_fault : (s.drop16).fault = s.fault := rfl
@[simp] theorem drop16_mem : (s.drop16).mem = s.mem := rfl
@[simp] theorem drop16_image : (s.drop16).image = s.image := rfl
@[simp] theorem drop16_config : (s.drop16).config = s.config := rfl

/-! #### jumpTo -/

@[simp] theorem jumpTo_a (target : Word) : (s.jumpTo target).a = s.a := rfl
@[simp] theorem jumpTo_b (target : Word) : (s.jumpTo target).b = s.b := rfl
@[simp] theorem jumpTo_c (target : Word) : (s.jumpTo target).c = s.c := rfl
@[simp] theorem jumpTo_d (target : Word) : (s.jumpTo target).d = s.d := rfl
@[simp] theorem jumpTo_e (target : Word) : (s.jumpTo target).e = s.e := rfl
@[simp] theorem jumpTo_h (target : Word) : (s.jumpTo target).h = s.h := rfl
@[simp] theorem jumpTo_l (target : Word) : (s.jumpTo target).l = s.l := rfl
@[simp] theorem jumpTo_f (target : Word) : (s.jumpTo target).f = s.f := rfl
@[simp] theorem jumpTo_sp (target : Word) : (s.jumpTo target).sp = s.sp := rfl
@[simp] theorem jumpTo_pc (target : Word) : (s.jumpTo target).pc = target := rfl
@[simp] theorem jumpTo_tickCount (target : Word) : (s.jumpTo target).tickCount = s.tickCount + 1 := rfl
@[simp] theorem jumpTo_ime (target : Word) : (s.jumpTo target).ime = s.ime := rfl
@[simp] theorem jumpTo_halted (target : Word) : (s.jumpTo target).halted = s.halted := rfl
@[simp] theorem jumpTo_fault (target : Word) : (s.jumpTo target).fault = s.fault := rfl
@[simp] theorem jumpTo_mem (target : Word) : (s.jumpTo target).mem = s.mem := rfl
@[simp] theorem jumpTo_image (target : Word) : (s.jumpTo target).image = s.image := rfl
@[simp] theorem jumpTo_config (target : Word) : (s.jumpTo target).config = s.config := rfl

/-! #### advance -/

@[simp] theorem advance_a (len : Nat) : (s.advance len).a = s.a := rfl
@[simp] theorem advance_b (len : Nat) : (s.advance len).b = s.b := rfl
@[simp] theorem advance_c (len : Nat) : (s.advance len).c = s.c := rfl
@[simp] theorem advance_d (len : Nat) : (s.advance len).d = s.d := rfl
@[simp] theorem advance_e (len : Nat) : (s.advance len).e = s.e := rfl
@[simp] theorem advance_h (len : Nat) : (s.advance len).h = s.h := rfl
@[simp] theorem advance_l (len : Nat) : (s.advance len).l = s.l := rfl
@[simp] theorem advance_f (len : Nat) : (s.advance len).f = s.f := rfl
@[simp] theorem advance_sp (len : Nat) : (s.advance len).sp = s.sp := rfl
@[simp] theorem advance_pc (len : Nat) : (s.advance len).pc = s.pc + BitVec.ofNat 16 len := rfl
@[simp] theorem advance_tickCount (len : Nat) : (s.advance len).tickCount = s.tickCount + 1 := rfl
@[simp] theorem advance_ime (len : Nat) : (s.advance len).ime = s.ime := rfl
@[simp] theorem advance_halted (len : Nat) : (s.advance len).halted = s.halted := rfl
@[simp] theorem advance_fault (len : Nat) : (s.advance len).fault = s.fault := rfl
@[simp] theorem advance_mem (len : Nat) : (s.advance len).mem = s.mem := rfl
@[simp] theorem advance_image (len : Nat) : (s.advance len).image = s.image := rfl
@[simp] theorem advance_config (len : Nat) : (s.advance len).config = s.config := rfl

/-! #### raise -/

@[simp] theorem raise_a (r : Fault) : (s.raise r).a = s.a := rfl
@[simp] theorem raise_b (r : Fault) : (s.raise r).b = s.b := rfl
@[simp] theorem raise_c (r : Fault) : (s.raise r).c = s.c := rfl
@[simp] theorem raise_d (r : Fault) : (s.raise r).d = s.d := rfl
@[simp] theorem raise_e (r : Fault) : (s.raise r).e = s.e := rfl
@[simp] theorem raise_h (r : Fault) : (s.raise r).h = s.h := rfl
@[simp] theorem raise_l (r : Fault) : (s.raise r).l = s.l := rfl
@[simp] theorem raise_f (r : Fault) : (s.raise r).f = s.f := rfl
@[simp] theorem raise_sp (r : Fault) : (s.raise r).sp = s.sp := rfl
@[simp] theorem raise_pc (r : Fault) : (s.raise r).pc = s.pc := rfl
@[simp] theorem raise_tickCount (r : Fault) : (s.raise r).tickCount = s.tickCount := rfl
@[simp] theorem raise_ime (r : Fault) : (s.raise r).ime = s.ime := rfl
@[simp] theorem raise_halted (r : Fault) : (s.raise r).halted = s.halted := rfl
@[simp] theorem raise_fault (r : Fault) : (s.raise r).fault = some r := rfl
@[simp] theorem raise_mem (r : Fault) : (s.raise r).mem = s.mem := rfl
@[simp] theorem raise_image (r : Fault) : (s.raise r).image = s.image := rfl
@[simp] theorem raise_config (r : Fault) : (s.raise r).config = s.config := rfl

/-! #### clearLatches -/

@[simp] theorem clearLatches_a : (s.clearLatches).a = s.a := rfl
@[simp] theorem clearLatches_b : (s.clearLatches).b = s.b := rfl
@[simp] theorem clearLatches_c : (s.clearLatches).c = s.c := rfl
@[simp] theorem clearLatches_d : (s.clearLatches).d = s.d := rfl
@[simp] theorem clearLatches_e : (s.clearLatches).e = s.e := rfl
@[simp] theorem clearLatches_h : (s.clearLatches).h = s.h := rfl
@[simp] theorem clearLatches_l : (s.clearLatches).l = s.l := rfl
@[simp] theorem clearLatches_f : (s.clearLatches).f = s.f := rfl
@[simp] theorem clearLatches_sp : (s.clearLatches).sp = s.sp := rfl
@[simp] theorem clearLatches_pc : (s.clearLatches).pc = s.pc := rfl
@[simp] theorem clearLatches_tickCount : (s.clearLatches).tickCount = s.tickCount := rfl
@[simp] theorem clearLatches_ime : (s.clearLatches).ime = s.ime := rfl
@[simp] theorem clearLatches_halted : (s.clearLatches).halted = .running := rfl
@[simp] theorem clearLatches_fault : (s.clearLatches).fault = none := rfl
@[simp] theorem clearLatches_mem : (s.clearLatches).mem = s.mem := rfl
@[simp] theorem clearLatches_image : (s.clearLatches).image = s.image := rfl
@[simp] theorem clearLatches_config : (s.clearLatches).config = s.config := rfl

/-! #### withFlags -/

@[simp] theorem withFlags_a (w : FlagWrite) : (s.withFlags w).a = s.a := rfl
@[simp] theorem withFlags_b (w : FlagWrite) : (s.withFlags w).b = s.b := rfl
@[simp] theorem withFlags_c (w : FlagWrite) : (s.withFlags w).c = s.c := rfl
@[simp] theorem withFlags_d (w : FlagWrite) : (s.withFlags w).d = s.d := rfl
@[simp] theorem withFlags_e (w : FlagWrite) : (s.withFlags w).e = s.e := rfl
@[simp] theorem withFlags_h (w : FlagWrite) : (s.withFlags w).h = s.h := rfl
@[simp] theorem withFlags_l (w : FlagWrite) : (s.withFlags w).l = s.l := rfl
@[simp] theorem withFlags_f (w : FlagWrite) : (s.withFlags w).f = writeFlags s.f w := rfl
@[simp] theorem withFlags_sp (w : FlagWrite) : (s.withFlags w).sp = s.sp := rfl
@[simp] theorem withFlags_pc (w : FlagWrite) : (s.withFlags w).pc = s.pc := rfl
@[simp] theorem withFlags_tickCount (w : FlagWrite) : (s.withFlags w).tickCount = s.tickCount := rfl
@[simp] theorem withFlags_ime (w : FlagWrite) : (s.withFlags w).ime = s.ime := rfl
@[simp] theorem withFlags_halted (w : FlagWrite) : (s.withFlags w).halted = s.halted := rfl
@[simp] theorem withFlags_fault (w : FlagWrite) : (s.withFlags w).fault = s.fault := rfl
@[simp] theorem withFlags_mem (w : FlagWrite) : (s.withFlags w).mem = s.mem := rfl
@[simp] theorem withFlags_image (w : FlagWrite) : (s.withFlags w).image = s.image := rfl
@[simp] theorem withFlags_config (w : FlagWrite) : (s.withFlags w).config = s.config := rfl

/-! #### setLoc -/

@[simp] theorem setLoc_f (o : Loc8) (v : Byte) : (s.setLoc o v).f = s.f := by rcases o with r | _ <;> [cases r <;> rfl; rfl]
@[simp] theorem setLoc_sp (o : Loc8) (v : Byte) : (s.setLoc o v).sp = s.sp := by rcases o with r | _ <;> [cases r <;> rfl; rfl]
@[simp] theorem setLoc_pc (o : Loc8) (v : Byte) : (s.setLoc o v).pc = s.pc := by rcases o with r | _ <;> [cases r <;> rfl; rfl]
@[simp] theorem setLoc_tickCount (o : Loc8) (v : Byte) : (s.setLoc o v).tickCount = s.tickCount := by rcases o with r | _ <;> [cases r <;> rfl; rfl]
@[simp] theorem setLoc_ime (o : Loc8) (v : Byte) : (s.setLoc o v).ime = s.ime := by rcases o with r | _ <;> [cases r <;> rfl; rfl]
@[simp] theorem setLoc_halted (o : Loc8) (v : Byte) : (s.setLoc o v).halted = s.halted := by rcases o with r | _ <;> [cases r <;> rfl; rfl]
@[simp] theorem setLoc_fault (o : Loc8) (v : Byte) : (s.setLoc o v).fault = s.fault := by rcases o with r | _ <;> [cases r <;> rfl; rfl]
@[simp] theorem setLoc_image (o : Loc8) (v : Byte) : (s.setLoc o v).image = s.image := by rcases o with r | _ <;> [cases r <;> rfl; rfl]
@[simp] theorem setLoc_config (o : Loc8) (v : Byte) : (s.setLoc o v).config = s.config := by rcases o with r | _ <;> [cases r <;> rfl; rfl]

/-! #### setRP -/

@[simp] theorem setRP_a (p : RP) (v : Word) : (s.setRP p v).a = s.a := by cases p <;> rfl
@[simp] theorem setRP_f (p : RP) (v : Word) : (s.setRP p v).f = s.f := by cases p <;> rfl
@[simp] theorem setRP_pc (p : RP) (v : Word) : (s.setRP p v).pc = s.pc := by cases p <;> rfl
@[simp] theorem setRP_tickCount (p : RP) (v : Word) : (s.setRP p v).tickCount = s.tickCount := by cases p <;> rfl
@[simp] theorem setRP_ime (p : RP) (v : Word) : (s.setRP p v).ime = s.ime := by cases p <;> rfl
@[simp] theorem setRP_halted (p : RP) (v : Word) : (s.setRP p v).halted = s.halted := by cases p <;> rfl
@[simp] theorem setRP_fault (p : RP) (v : Word) : (s.setRP p v).fault = s.fault := by cases p <;> rfl
@[simp] theorem setRP_mem (p : RP) (v : Word) : (s.setRP p v).mem = s.mem := by cases p <;> rfl
@[simp] theorem setRP_image (p : RP) (v : Word) : (s.setRP p v).image = s.image := by cases p <;> rfl
@[simp] theorem setRP_config (p : RP) (v : Word) : (s.setRP p v).config = s.config := by cases p <;> rfl

/-! #### setRP2 -/

@[simp] theorem setRP2_sp (q : RP2) (v : Word) : (s.setRP2 q v).sp = s.sp := by cases q <;> rfl
@[simp] theorem setRP2_pc (q : RP2) (v : Word) : (s.setRP2 q v).pc = s.pc := by cases q <;> rfl
@[simp] theorem setRP2_tickCount (q : RP2) (v : Word) : (s.setRP2 q v).tickCount = s.tickCount := by cases q <;> rfl
@[simp] theorem setRP2_ime (q : RP2) (v : Word) : (s.setRP2 q v).ime = s.ime := by cases q <;> rfl
@[simp] theorem setRP2_halted (q : RP2) (v : Word) : (s.setRP2 q v).halted = s.halted := by cases q <;> rfl
@[simp] theorem setRP2_fault (q : RP2) (v : Word) : (s.setRP2 q v).fault = s.fault := by cases q <;> rfl
@[simp] theorem setRP2_mem (q : RP2) (v : Word) : (s.setRP2 q v).mem = s.mem := by cases q <;> rfl
@[simp] theorem setRP2_image (q : RP2) (v : Word) : (s.setRP2 q v).image = s.image := by cases q <;> rfl
@[simp] theorem setRP2_config (q : RP2) (v : Word) : (s.setRP2 q v).config = s.config := by cases q <;> rfl

/-! #### Registers through their accessor -/

@[simp] theorem reg_setReg (r r' : Reg8) (v : Byte) :
    (s.setReg r v).reg r' = if r' = r then v else s.reg r' := by
  cases r <;> cases r' <;> rfl
@[simp] theorem reg_writeMem (r : Reg8) (addr : Word) (v : Byte) : (s.writeMem addr v).reg r = s.reg r := by
  cases r <;> rfl
@[simp] theorem reg_writeMem16 (r : Reg8) (addr v : Word) : (s.writeMem16 addr v).reg r = s.reg r := by
  cases r <;> rfl
@[simp] theorem reg_push16 (r : Reg8) (v : Word) : (s.push16 v).reg r = s.reg r := by cases r <;> rfl
@[simp] theorem reg_drop16 (r : Reg8) : s.drop16.reg r = s.reg r := by cases r <;> rfl
@[simp] theorem reg_jumpTo (r : Reg8) (target : Word) : (s.jumpTo target).reg r = s.reg r := by
  cases r <;> rfl
@[simp] theorem reg_advance (r : Reg8) (len : Nat) : (s.advance len).reg r = s.reg r := by
  cases r <;> rfl
@[simp] theorem reg_raise (r : Reg8) (k : Fault) : (s.raise k).reg r = s.reg r := by cases r <;> rfl
@[simp] theorem reg_withFlags (r : Reg8) (w : FlagWrite) : (s.withFlags w).reg r = s.reg r := by
  cases r <;> rfl

/-! #### Memory through its accessor -/

@[simp] theorem readMem_setReg (r : Reg8) (v : Byte) (a : Word) :
    (s.setReg r v).readMem a = s.readMem a := by cases r <;> rfl
@[simp] theorem readMem_setBC (v a : Word) : (s.setBC v).readMem a = s.readMem a := rfl
@[simp] theorem readMem_setDE (v a : Word) : (s.setDE v).readMem a = s.readMem a := rfl
@[simp] theorem readMem_setHL (v a : Word) : (s.setHL v).readMem a = s.readMem a := rfl
@[simp] theorem readMem_setRP (p : RP) (v a : Word) : (s.setRP p v).readMem a = s.readMem a := by
  cases p <;> rfl
@[simp] theorem readMem_setRP2 (q : RP2) (v a : Word) : (s.setRP2 q v).readMem a = s.readMem a := by
  cases q <;> rfl
@[simp] theorem readMem_drop16 (a : Word) : s.drop16.readMem a = s.readMem a := rfl
@[simp] theorem readMem_jumpTo (target a : Word) : (s.jumpTo target).readMem a = s.readMem a := rfl
@[simp] theorem readMem_advance (len : Nat) (a : Word) : (s.advance len).readMem a = s.readMem a := rfl
@[simp] theorem readMem_raise (k : Fault) (a : Word) : (s.raise k).readMem a = s.readMem a := rfl
@[simp] theorem readMem_withFlags (w : FlagWrite) (a : Word) :
    (s.withFlags w).readMem a = s.readMem a := rfl

end Sys2Proof.Machine
end

