-- ==== Sys2Proof/Laws/Memory.lean ====
section
/-! SUPPORT. The data memory: a read after a write (R44), and the canonical form, which every operation
keeps. -/

namespace Sys2Proof.Machine

theorem Memory.read_erase (m : Memory) (a b : Nat) :
    Memory.read (Memory.erase m a) b = if b = a then 0 else Memory.read m b := by
  induction m with
  | nil => simp [Memory.erase, Memory.read]
  | cons cell m ih =>
    obtain ⟨k, v⟩ := cell
    simp only [Memory.erase] at ih ⊢
    by_cases hk : k = a
    · subst hk
      simp only [List.filter, bne_self_eq_false, ih, Memory.read]
      by_cases hb : b = k
      · simp [hb]
      · simp [hb, Ne.symm hb]
    · have : (k != a) = true := by simp [hk]
      simp only [List.filter, this, Memory.read, ih]
      by_cases hb : k = b
      · subst hb; simp [hk]
      · simp [hb]

theorem Memory.erase_keys (m : Memory) (a : Nat) : ∀ cell ∈ Memory.erase m a, cell.1 ≠ a := by
  intro cell h
  simpa using (List.mem_filter.mp h).2

theorem Memory.read_insert (m : Memory) (a b : Nat) (v : Byte) (h : ∀ cell ∈ m, cell.1 ≠ a) :
    Memory.read (Memory.insert a v m) b = if b = a then v else Memory.read m b := by
  induction m with
  | nil =>
    by_cases hb : b = a
    · simp [Memory.insert, Memory.read, hb]
    · simp [Memory.insert, Memory.read, hb, Ne.symm hb]
  | cons cell m ih =>
    obtain ⟨k, w⟩ := cell
    have hk : k ≠ a := h (k, w) (by simp)
    have ih := ih (fun c hc => h c (by simp [hc]))
    by_cases hlt : a < k
    · by_cases hb : b = a
      · simp [Memory.insert, hlt, Memory.read, hb]
      · simp [Memory.insert, hlt, Memory.read, hb, Ne.symm hb]
    · simp only [Memory.insert, hlt, if_false, Memory.read, ih]
      by_cases hb : k = b
      · subst hb; simp [hk]
      · simp [hb]

/-- A read after a write: the written byte at its address, the old one elsewhere (R44). -/
@[simp] theorem Memory.read_write (m : Memory) (a b : Nat) (v : Byte) :
    Memory.read (Memory.write m a v) b = if b = a then v else Memory.read m b := by
  by_cases hv : v = 0
  · simp [Memory.write, hv, Memory.read_erase]
  · simp only [Memory.write, hv, if_false, Memory.read_insert _ _ _ _ (Memory.erase_keys m a),
      Memory.read_erase]
    by_cases hb : b = a <;> simp [hb]

theorem Memory.wfFrom_mono (m : Memory) {lo lo' : Nat} (h : lo' ≤ lo) (hm : Memory.wfFrom lo m = true) :
    Memory.wfFrom lo' m = true := by
  cases m with
  | nil => rfl
  | cons cell m =>
    obtain ⟨k, v⟩ := cell
    simp only [Memory.wfFrom, Bool.and_eq_true, decide_eq_true_eq] at hm ⊢
    exact ⟨⟨⟨by omega, hm.1.1.2⟩, hm.1.2⟩, hm.2⟩

theorem Memory.wfFrom_erase (m : Memory) (a lo : Nat) (hm : Memory.wfFrom lo m = true) :
    Memory.wfFrom lo (Memory.erase m a) = true := by
  induction m generalizing lo with
  | nil => rfl
  | cons cell m ih =>
    obtain ⟨k, v⟩ := cell
    simp only [Memory.wfFrom, Bool.and_eq_true, decide_eq_true_eq] at hm
    have ih := ih (k + 1) hm.2
    simp only [Memory.erase] at ih ⊢
    by_cases hk : k = a
    · simp only [List.filter, hk, bne_self_eq_false]
      exact Memory.wfFrom_mono _ (Nat.le_succ_of_le hm.1.1.1) ih
    · have : (k != a) = true := by simp [hk]
      simp only [List.filter, this, Memory.wfFrom, Bool.and_eq_true, decide_eq_true_eq]
      exact ⟨⟨⟨hm.1.1.1, hm.1.1.2⟩, hm.1.2⟩, ih⟩

theorem Memory.wfFrom_insert (m : Memory) (a : Nat) (v : Byte) (lo : Nat) (hlo : lo ≤ a)
    (ha : a < 65536) (hv : v ≠ 0) (h : ∀ cell ∈ m, cell.1 ≠ a) (hm : Memory.wfFrom lo m = true) :
    Memory.wfFrom lo (Memory.insert a v m) = true := by
  induction m generalizing lo with
  | nil => simpa [Memory.insert, Memory.wfFrom, hlo, ha] using hv
  | cons cell m ih =>
    obtain ⟨k, w⟩ := cell
    have hk : k ≠ a := h (k, w) (by simp)
    simp only [Memory.wfFrom, Bool.and_eq_true, decide_eq_true_eq] at hm
    by_cases hlt : a < k
    · simp only [Memory.insert, hlt, if_true, Memory.wfFrom, Bool.and_eq_true, decide_eq_true_eq]
      exact ⟨⟨⟨hlo, ha⟩, by simpa using hv⟩, ⟨⟨by omega, hm.1.1.2⟩, hm.1.2⟩, hm.2⟩
    · simp only [Memory.insert, hlt, if_false, Memory.wfFrom, Bool.and_eq_true, decide_eq_true_eq]
      exact ⟨hm.1, ih (k + 1) (by omega) (fun c hc => h c (by simp [hc])) hm.2⟩

/-- A write to a 16-bit address keeps the canonical form. -/
theorem Memory.wf_write (m : Memory) (a : Nat) (v : Byte) (ha : a < 65536) (hm : Memory.wf m = true) :
    Memory.wf (Memory.write m a v) = true := by
  by_cases hv : v = 0
  · simp only [Memory.write, hv, if_true]
    exact Memory.wfFrom_erase m a 0 hm
  · simp only [Memory.write, hv, if_false]
    exact Memory.wfFrom_insert _ a v 0 (by omega) ha hv (Memory.erase_keys m a)
      (Memory.wfFrom_erase m a 0 hm)

theorem wf_writeMem {s : State} (addr : Word) (v : Byte) (h : Memory.wf s.mem = true) :
    Memory.wf (s.writeMem addr v).mem = true := Memory.wf_write s.mem addr.toNat v addr.isLt h

theorem wf_writeMem16 {s : State} (addr v : Word) (h : Memory.wf s.mem = true) :
    Memory.wf (s.writeMem16 addr v).mem = true := wf_writeMem _ _ (wf_writeMem _ _ h)

theorem wf_push16 {s : State} (v : Word) (h : Memory.wf s.mem = true) :
    Memory.wf (s.push16 v).mem = true := by
  rw [push16_mem]
  exact Memory.wf_write _ _ _ (BitVec.isLt _) (Memory.wf_write _ _ _ (BitVec.isLt _) h)

theorem wf_setLoc {s : State} (o : Loc8) (v : Byte) (h : Memory.wf s.mem = true) :
    Memory.wf (s.setLoc o v).mem = true := by
  cases o with
  | reg r => simpa [State.setLoc] using h
  | atHL => exact wf_writeMem _ _ h

/-- `MemRead` after `MemWrite`. -/
@[simp] theorem readMem_writeMem (s : State) (a b : Word) (v : Byte) :
    (s.writeMem a v).readMem b = if b = a then v else s.readMem b := by
  simp [State.readMem, State.writeMem, BitVec.toNat_inj]

/-- The two bytes of a 16-bit store (R47), and every other. -/
@[simp] theorem readMem_writeMem16 (s : State) (a v b : Word) :
    (s.writeMem16 a v).readMem b =
      if b = a + 1 then hiByte v else if b = a then loByte v else s.readMem b := by
  simp [State.writeMem16]

/-- The two bytes of a push (R48), and every other. -/
theorem readMem_push16 (s : State) (v b : Word) :
    (s.push16 v).readMem b =
      if b = s.sp - 1 - 1 then loByte v else if b = s.sp - 1 then hiByte v else s.readMem b := by
  simp only [State.readMem, push16_mem, Memory.read_write, BitVec.toNat_inj]

end Sys2Proof.Machine
end

