-- ==== Sys2Proof/Laws/Slots.lean ====
section
/-! SUPPORT. The two opcode tables against the encoder, slot by slot (R60 to R62, R72 to R79, R82): what the
operation of each slot makes of its operands is encoded as the slot's bytes and those operands. -/

namespace Sys2Proof

/-- The bytes a slot's instruction starts with: the opcode byte, in `cb` after the escape byte (R65). -/
def Slot.prefixBytes (s : Slot) : List Byte :=
  match s.table with
  | .base => [s.byte]
  | .cb => [0xCB, s.byte]

/-- Every instruction a slot's operation makes is well formed, and encoded as the slot's bytes and the
operands. -/
def Slot.Encodes (s : Slot) : Prop :=
  match (lookup s).operation with
  | .plain i => i.wellFormed = true ∧ encode i = s.prefixBytes
  | .imm8 make => ∀ n, (make n).wellFormed = true ∧ encode (make n) = s.prefixBytes ++ [n]
  | .disp make => ∀ d, (make d).wellFormed = true ∧ encode (make d) = s.prefixBytes ++ [d]
  | .imm16 make => ∀ nn, (make nn).wellFormed = true ∧
      encode (make nn) = s.prefixBytes ++ [loByte nn, hiByte nn]
  | .undefined => undefinedBytes.contains s.byte = true ∧ s.table = .base
  | .escape => s = { table := .base, byte := 0xCB }

theorem encodes_base (n : Fin 256) : Slot.Encodes { table := .base, byte := BitVec.ofFin n } := by
  fin_cases n <;> first
    | exact ⟨rfl, rfl⟩
    | exact fun _ => ⟨rfl, rfl⟩
    | exact (rfl : (_ : Slot) = _)

theorem encodes_cb (n : Fin 256) : Slot.Encodes { table := .cb, byte := BitVec.ofFin n } := by
  fin_cases n <;> exact ⟨rfl, rfl⟩

/-- Every slot's instruction is encoded as the slot's bytes and its operands. -/
theorem slot_encodes (s : Slot) : s.Encodes := by
  obtain ⟨t, b⟩ := s
  cases t
  · exact encodes_base b.toFin
  · exact encodes_cb b.toFin

/-- R82, for one slot: what the operation reads is what the flags say. -/
theorem lookup_consistent (s : Slot) : (lookup s).consistent = true := by
  obtain ⟨t, b⟩ := s
  have h : ∀ n : Fin 256, (lookup { table := .base, byte := BitVec.ofFin n }).consistent = true ∧
      (lookup { table := .cb, byte := BitVec.ofFin n }).consistent = true := by decide +kernel
  cases t
  · exact (h b.toFin).1
  · exact (h b.toFin).2

end Sys2Proof
end

