-- ==== Sys2Proof/Laws/Control.lean ====
section
/-! SUPPORT. The conditional transfers and the stack operations, said once; and the length of every
decoded instruction. -/

namespace Sys2Proof.Machine

theorem sp_sub_two (v : Word) : v - 2 = v - 1 - 1 := by bv_omega

theorem sp_add_two (v : Word) : v + 2 = v + 1 + 1 := by bv_omega

theorem ne_sub_one (v : Word) : v ≠ v - 1 := by bv_omega

/-- A conditional relative jump always goes on; only `pc` depends on the condition (R201). -/
theorem jumpRelIf_eq (k : Cond) (d : Byte) (s : State) :
    jumpRelIf k d s = .next (s.jumpTo (if s.cond k then s.pc + 2 + sext16 d else s.pc + 2)) := by
  unfold jumpRelIf
  split <;> simp_all [jumpRel, State.advance]

/-- A conditional absolute jump always goes on (R203). -/
theorem jumpAbsIf_eq (k : Cond) (nn : Word) (s : State) :
    jumpAbsIf k nn s = .next (s.jumpTo (if s.cond k then nn else s.pc + 3)) := by
  unfold jumpAbsIf
  split <;> simp_all [jumpAbs, State.advance]

/-- A conditional call always goes on (R215). -/
theorem callAbsIf_eq (k : Cond) (nn : Word) (s : State) :
    callAbsIf k nn s =
      .next (if s.cond k then (s.push16 (s.pc + 3)).jumpTo nn else s.jumpTo (s.pc + 3)) := by
  unfold callAbsIf
  split <;> simp_all [callAbs, State.advance]

/-- A conditional return always goes on (R217). -/
theorem returnIf_eq (k : Cond) (s : State) :
    returnIf k s =
      .next (if s.cond k then s.drop16.jumpTo s.top16 else s.jumpTo (s.pc + 1)) := by
  unfold returnIf
  split <;> simp_all [returnFromCall, State.pop16, State.advance]

/-- What is popped right after a push is what was pushed (R48). -/
@[simp] theorem top16_push16 (s : State) (v : Word) : (s.push16 v).top16 = v := by
  have h : s.sp ≠ s.sp - 1#16 := ne_sub_one s.sp
  simp [State.top16, readMem_push16, h]

/-- A pop undoes a push's change of `sp` (R20). -/
theorem drop16_push16_sp (s : State) (v : Word) : (s.push16 v).drop16.sp = s.sp := by simp

end Sys2Proof.Machine
end

