-- ==== Sys2Proof/Laws/Flags.lean ====
section
/-! SUPPORT. The flags byte: what reading a packed, a written and a masked flags byte gives (R14, R15). -/

namespace Sys2Proof.Machine

theorem flags_packFlags (z n h c : Bool) (low : BitVec 4) :
    flagZ (packFlags z n h c low) = z ∧ flagN (packFlags z n h c low) = n ∧
    flagH (packFlags z n h c low) = h ∧ flagC (packFlags z n h c low) = c ∧
    flagLow (packFlags z n h c low) = low := by
  revert z n h c low
  decide

@[simp] theorem flagZ_writeFlags (f : Byte) (w : FlagWrite) :
    flagZ (writeFlags f w) = w.z.getD (flagZ f) := (flags_packFlags _ _ _ _ _).1
@[simp] theorem flagN_writeFlags (f : Byte) (w : FlagWrite) :
    flagN (writeFlags f w) = w.n.getD (flagN f) := (flags_packFlags _ _ _ _ _).2.1
@[simp] theorem flagH_writeFlags (f : Byte) (w : FlagWrite) :
    flagH (writeFlags f w) = w.h.getD (flagH f) := (flags_packFlags _ _ _ _ _).2.2.1
@[simp] theorem flagC_writeFlags (f : Byte) (w : FlagWrite) :
    flagC (writeFlags f w) = w.c.getD (flagC f) := (flags_packFlags _ _ _ _ _).2.2.2.1
@[simp] theorem flagLow_writeFlags (f : Byte) (w : FlagWrite) :
    flagLow (writeFlags f w) = flagLow f := (flags_packFlags _ _ _ _ _).2.2.2.2

@[simp] theorem flagLow_maskFlags (v : Byte) : flagLow (maskFlags v) = 0 := by
  revert v
  decide

end Sys2Proof.Machine
end

