-- ==== Sys2Proof/Laws/Exec.lean ====
section
/-! SUPPORT. The 502 meanings are instances of the shared operations: `exec` is one function of the form of
an instruction, so that a proof about every instruction splits on the forms and not on `Instr`. -/

namespace Sys2Proof.Machine

/-- The shared operation of each form, with its operands. -/
def execForm (g : Form) (s : State) : Result :=
  match g with
  | .nop => nop s
  | .ldReg dst src => loadReg dst src s
  | .ldFromHL dst => loadFromHL dst s
  | .ldToHL src => storeToHL src s
  | .ldImm dst n => loadImm dst n s
  | .ldHLImm n => storeImmToHL n s
  | .ldPairImm p nn => loadPairImm p nn s
  | .stAPtr q => storeA (s.ptr q) 1 s
  | .ldAPtr q => loadA (s.ptr q) 1 s
  | .stAAbs nn => storeA nn 3 s
  | .ldAAbs nn => loadA nn 3 s
  | .stAHigh n => storeA (highPage n) 2 s
  | .ldAHigh n => loadA (highPage n) 2 s
  | .stAHighC => storeA (highPage s.c) 1 s
  | .ldAHighC => loadA (highPage s.c) 1 s
  | .ldSPHL => loadSPFromHL s
  | .stSPAbs nn => storeSP nn s
  | .stAStep k => storeAStep k s
  | .ldAStep k => loadAStep k s
  | .inc8 o => incLoc o s
  | .dec8 o => decLoc o s
  | .inc16 p => incPair p s
  | .dec16 p => decPair p s
  | .alu op v => aluOp op v s
  | .daa => decimalAdjust s
  | .cpl => complementA s
  | .scf => setCarry s
  | .ccf => complementCarry s
  | .rot op o => rotateLoc op o s
  | .rotA op => rotateA op s
  | .bit y o => testBit y o s
  | .res y o => resetBit y o s
  | .set y o => setBit y o s
  | .jr d => jumpRel d s
  | .jrIf k d => jumpRelIf k d s
  | .jp nn => jumpAbs nn s
  | .jpIf k nn => jumpAbsIf k nn s
  | .jpHL => jumpHL s
  | .push q => pushPair q s
  | .pop q => popPair q s
  | .call nn => callAbs nn s
  | .callIf k nn => callAbsIf k nn s
  | .ret => returnFromCall s
  | .retIf k => returnIf k s
  | .reti => returnEnable s
  | .rst y => restart y s
  | .addHL p => addPairToHL p s
  | .addSP d => addDispToSP d s
  | .ldHLSP d => loadHLFromSP d s
  | .halt => halt s
  | .stop n => stop n s
  | .di => disableInterrupts s
  | .ei => enableInterrupts s
  | .undefined op => undefinedOpcode op s
  | .escape => escapeSlot s

/-- Every meaning is the shared operation of its form. -/
theorem exec_eq_execForm (i : Instr) (s : State) : exec i s = execForm i.form s := by
  cases i <;> rfl

/-- The instruction behind the escape byte is one of the four `cb` forms (R76). -/
theorem runCB_cases (op : Byte) (s : State) :
    ∃ g : Form, runCB op s = execForm g s ∧
      ((∃ r o, g = .rot r o) ∨ (∃ y o, g = .bit y o) ∨ (∃ y o, g = .res y o) ∨ ∃ y o, g = .set y o) := by
  unfold runCB
  dsimp only
  split
  · exact ⟨.rot _ _, rfl, .inl ⟨_, _, rfl⟩⟩
  · exact ⟨.bit _ _, rfl, .inr (.inl ⟨_, _, rfl⟩)⟩
  · exact ⟨.res _ _, rfl, .inr (.inr (.inl ⟨_, _, rfl⟩))⟩
  · exact ⟨.set _ _, rfl, .inr (.inr (.inr ⟨_, _, rfl⟩))⟩

end Sys2Proof.Machine
end

