-- ==== Sys2Proof/Laws/Loop.lean ====
section
/-! SUPPORT. What a step can do, said once: the inversion of `step` and of `attempt`, which every proof
about steps cites instead of unfolding the loop. -/

namespace Sys2Proof.Machine

/-! ### The fetched bytes -/

theorem window_nil {s : State} (h0 : s.progRead s.pc = none) : s.window = [] := by
  simp only [State.window, h0, readable]

theorem window_one {s : State} {b : Byte} (h0 : s.progRead s.pc = some b)
    (h1 : s.progRead (s.pc + 1) = none) : s.window = [b] := by
  simp only [State.window, h0, h1, readable]

theorem window_two {s : State} {b c : Byte} (h0 : s.progRead s.pc = some b)
    (h1 : s.progRead (s.pc + 1) = some c) (h2 : s.progRead (s.pc + 2) = none) : s.window = [b, c] := by
  simp only [State.window, h0, h1, h2, readable]

theorem window_three {s : State} {b c d : Byte} (h0 : s.progRead s.pc = some b)
    (h1 : s.progRead (s.pc + 1) = some c) (h2 : s.progRead (s.pc + 2) = some d) :
    s.window = [b, c, d] := by
  simp only [State.window, h0, h1, h2, readable]

/-- The first fetched byte is the one at `pc`. -/
theorem window_cons {s : State} {b : Byte} (h0 : s.progRead s.pc = some b) :
    ∃ rest, s.window = b :: rest := by
  refine ⟨readable [s.progRead (s.pc + 1), s.progRead (s.pc + 2)], ?_⟩
  simp only [State.window, h0, readable]

/-- An unescaped first byte is looked up in table `base` (R92, R93). -/
theorem decode_base {b : Byte} (hb : b ≠ 0xCB) (bs : List Byte) :
    decode (b :: bs) = decodeOperands { table := .base, byte := b } 1 bs := by
  exact if_neg hb

/-! ### Steps -/

/-- A step that answers a next state was idle, or raised a fetch fault, or ran an instruction. -/
theorem step_next_cases {s t : State} (h : step s = .next t) :
    (attempt s = .idle ∧ t = s) ∨ (∃ r, attempt s = .fetchFault r ∧ t = s.raise r) ∨
      ∃ slot i, attempt s = .execute slot i ∧ exec i s = .next t := by
  unfold step runLoop at h
  split at h
  · cases h
  · rename_i ha
    exact .inl ⟨ha, by cases h; rfl⟩
  · rename_i r ha
    exact .inr (.inl ⟨r, ha, by cases h; rfl⟩)
  · cases h
  · rename_i slot i ha
    exact .inr (.inr ⟨slot, i, ha, h⟩)

/-- What `attempt` comes to, by the latches and the decoder. -/
theorem attempt_cases (s : State) :
    (∃ r, s.fault = some r ∧ attempt s = .latched r) ∨
    (s.fault = none ∧ s.halted ≠ .running ∧ attempt s = .idle) ∨
    (s.fault = none ∧ s.halted = .running ∧
      ((∃ k, decode s.window = .truncated k ∧
          attempt s = .fetchFault (.outOfBoundsProgramRead (s.pc + BitVec.ofNat 16 k) s.pc)) ∨
       (∃ slot i rest, decode s.window = .ok slot i rest ∧ s.config.isNull slot = true ∧
          attempt s = .nullOperation slot) ∨
       ∃ slot i rest, decode s.window = .ok slot i rest ∧ s.config.isNull slot = false ∧
          attempt s = .execute slot i)) := by
  unfold attempt
  cases hf : s.fault with
  | some r => exact .inl ⟨r, rfl, rfl⟩
  | none =>
    cases hh : s.halted with
    | halted => exact .inr (.inl ⟨rfl, by simp, rfl⟩)
    | stopped => exact .inr (.inl ⟨rfl, by simp, rfl⟩)
    | running =>
      refine .inr (.inr ⟨rfl, rfl, ?_⟩)
      cases hd : decode s.window with
      | truncated k => exact .inl ⟨k, rfl, rfl⟩
      | ok slot i rest =>
        cases hn : s.config.isNull slot with
        | true => exact .inr (.inl ⟨slot, i, rest, rfl, hn, by simp [hn]⟩)
        | false => exact .inr (.inr ⟨slot, i, rest, rfl, hn, by simp [hn]⟩)

/-- A running machine's attempt is its decoder's answer. -/
theorem attempt_execute {s : State} {slot : Slot} {i : Instr} {rest : List Byte}
    (hf : s.fault = none) (hh : s.halted = .running) (hd : decode s.window = .ok slot i rest)
    (hn : s.config.isNull slot = false) : attempt s = .execute slot i := by
  simp [attempt, hf, hh, hd, hn]

/-- A running machine whose fetch is cut off raises the fault of the byte it lacks (R253). -/
theorem step_truncated {s : State} {k : Nat} (hf : s.fault = none) (hh : s.halted = .running)
    (hd : decode s.window = .truncated k) :
    step s = .next (s.raise (.outOfBoundsProgramRead (s.pc + BitVec.ofNat 16 k) s.pc)) := by
  simp [step, runLoop, attempt, hf, hh, hd]

end Sys2Proof.Machine
end

