-- ==== Sys2Proof/Tests/Slice0.lean ====
section
/-! SUPPORT. The model's own tests. Decoding: every row of `spec/opcode_table.json`, its word written out in
binary from the row's `encoding` (operands: n = 0x5A, d = 0xFB, nn = 0x1234). One step: vectors of
`95_test_vectors.md`, named by their ids there. Witnesses: states and operands that meet the hypotheses of
each obligation. -/

namespace Sys2Proof.Tests

open Sys2Proof Sys2Proof.Machine

/-! ### Well-formedness -/

theorem test_illegal_of_a_defined_byte_is_refused : Instr.wellFormed (.illegal 0x00) = false := by decide
theorem test_illegal_of_the_escape_byte_is_refused : Instr.wellFormed (.illegal 0xCB) = false := by decide
theorem test_prefixCB_is_refused : Instr.wellFormed .prefixCB = false := by decide
theorem test_undefined_byte_is_accepted : Instr.wellFormed (.illegal 0xFD) = true := by decide

/-! ### Decoding and encoding, row by row of the opcode table -/

/-- The bytes decode to the instruction, with nothing left over, and it is encoded as the bytes. -/
def spells (bytes : List Byte) (i : Instr) : Bool :=
  match decode bytes with
  | .ok _ j [] => j == i && encode i == bytes
  | _ => false

theorem test_decode_base_00_to_0F : ([
    ([0b00000000], .nop),
    ([0b00000001, 0b00110100, 0b00010010], (.ld_BC_nn 0x1234)),
    ([0b00000010], .ld_atBC_A),
    ([0b00000011], .inc_BC),
    ([0b00000100], .inc_B),
    ([0b00000101], .dec_B),
    ([0b00000110, 0b01011010], (.ld_B_n 0x5A)),
    ([0b00000111], .rlca),
    ([0b00001000, 0b00110100, 0b00010010], (.ld_atNN_SP 0x1234)),
    ([0b00001001], .add_HL_BC),
    ([0b00001010], .ld_A_atBC),
    ([0b00001011], .dec_BC),
    ([0b00001100], .inc_C),
    ([0b00001101], .dec_C),
    ([0b00001110, 0b01011010], (.ld_C_n 0x5A)),
    ([0b00001111], .rrca)] : List (List Byte × Instr)).all (fun p => spells p.1 p.2) = true := by decide

theorem test_decode_base_10_to_1F : ([
    ([0b00010000, 0b01011010], (.stop 0x5A)),
    ([0b00010001, 0b00110100, 0b00010010], (.ld_DE_nn 0x1234)),
    ([0b00010010], .ld_atDE_A),
    ([0b00010011], .inc_DE),
    ([0b00010100], .inc_D),
    ([0b00010101], .dec_D),
    ([0b00010110, 0b01011010], (.ld_D_n 0x5A)),
    ([0b00010111], .rla),
    ([0b00011000, 0b11111011], (.jr_d 0xFB)),
    ([0b00011001], .add_HL_DE),
    ([0b00011010], .ld_A_atDE),
    ([0b00011011], .dec_DE),
    ([0b00011100], .inc_E),
    ([0b00011101], .dec_E),
    ([0b00011110, 0b01011010], (.ld_E_n 0x5A)),
    ([0b00011111], .rra)] : List (List Byte × Instr)).all (fun p => spells p.1 p.2) = true := by decide

theorem test_decode_base_20_to_2F : ([
    ([0b00100000, 0b11111011], (.jr_NZ_d 0xFB)),
    ([0b00100001, 0b00110100, 0b00010010], (.ld_HL_nn 0x1234)),
    ([0b00100010], .ld_atHLinc_A),
    ([0b00100011], .inc_HL),
    ([0b00100100], .inc_H),
    ([0b00100101], .dec_H),
    ([0b00100110, 0b01011010], (.ld_H_n 0x5A)),
    ([0b00100111], .daa),
    ([0b00101000, 0b11111011], (.jr_Z_d 0xFB)),
    ([0b00101001], .add_HL_HL),
    ([0b00101010], .ld_A_atHLinc),
    ([0b00101011], .dec_HL),
    ([0b00101100], .inc_L),
    ([0b00101101], .dec_L),
    ([0b00101110, 0b01011010], (.ld_L_n 0x5A)),
    ([0b00101111], .cpl)] : List (List Byte × Instr)).all (fun p => spells p.1 p.2) = true := by decide

theorem test_decode_base_30_to_3F : ([
    ([0b00110000, 0b11111011], (.jr_NC_d 0xFB)),
    ([0b00110001, 0b00110100, 0b00010010], (.ld_SP_nn 0x1234)),
    ([0b00110010], .ld_atHLdec_A),
    ([0b00110011], .inc_SP),
    ([0b00110100], .inc_atHL),
    ([0b00110101], .dec_atHL),
    ([0b00110110, 0b01011010], (.ld_atHL_n 0x5A)),
    ([0b00110111], .scf),
    ([0b00111000, 0b11111011], (.jr_C_d 0xFB)),
    ([0b00111001], .add_HL_SP),
    ([0b00111010], .ld_A_atHLdec),
    ([0b00111011], .dec_SP),
    ([0b00111100], .inc_A),
    ([0b00111101], .dec_A),
    ([0b00111110, 0b01011010], (.ld_A_n 0x5A)),
    ([0b00111111], .ccf)] : List (List Byte × Instr)).all (fun p => spells p.1 p.2) = true := by decide

theorem test_decode_base_40_to_4F : ([
    ([0b01000000], .ld_B_B),
    ([0b01000001], .ld_B_C),
    ([0b01000010], .ld_B_D),
    ([0b01000011], .ld_B_E),
    ([0b01000100], .ld_B_H),
    ([0b01000101], .ld_B_L),
    ([0b01000110], .ld_B_atHL),
    ([0b01000111], .ld_B_A),
    ([0b01001000], .ld_C_B),
    ([0b01001001], .ld_C_C),
    ([0b01001010], .ld_C_D),
    ([0b01001011], .ld_C_E),
    ([0b01001100], .ld_C_H),
    ([0b01001101], .ld_C_L),
    ([0b01001110], .ld_C_atHL),
    ([0b01001111], .ld_C_A)] : List (List Byte × Instr)).all (fun p => spells p.1 p.2) = true := by decide

theorem test_decode_base_50_to_5F : ([
    ([0b01010000], .ld_D_B),
    ([0b01010001], .ld_D_C),
    ([0b01010010], .ld_D_D),
    ([0b01010011], .ld_D_E),
    ([0b01010100], .ld_D_H),
    ([0b01010101], .ld_D_L),
    ([0b01010110], .ld_D_atHL),
    ([0b01010111], .ld_D_A),
    ([0b01011000], .ld_E_B),
    ([0b01011001], .ld_E_C),
    ([0b01011010], .ld_E_D),
    ([0b01011011], .ld_E_E),
    ([0b01011100], .ld_E_H),
    ([0b01011101], .ld_E_L),
    ([0b01011110], .ld_E_atHL),
    ([0b01011111], .ld_E_A)] : List (List Byte × Instr)).all (fun p => spells p.1 p.2) = true := by decide

theorem test_decode_base_60_to_6F : ([
    ([0b01100000], .ld_H_B),
    ([0b01100001], .ld_H_C),
    ([0b01100010], .ld_H_D),
    ([0b01100011], .ld_H_E),
    ([0b01100100], .ld_H_H),
    ([0b01100101], .ld_H_L),
    ([0b01100110], .ld_H_atHL),
    ([0b01100111], .ld_H_A),
    ([0b01101000], .ld_L_B),
    ([0b01101001], .ld_L_C),
    ([0b01101010], .ld_L_D),
    ([0b01101011], .ld_L_E),
    ([0b01101100], .ld_L_H),
    ([0b01101101], .ld_L_L),
    ([0b01101110], .ld_L_atHL),
    ([0b01101111], .ld_L_A)] : List (List Byte × Instr)).all (fun p => spells p.1 p.2) = true := by decide

theorem test_decode_base_70_to_7F : ([
    ([0b01110000], .ld_atHL_B),
    ([0b01110001], .ld_atHL_C),
    ([0b01110010], .ld_atHL_D),
    ([0b01110011], .ld_atHL_E),
    ([0b01110100], .ld_atHL_H),
    ([0b01110101], .ld_atHL_L),
    ([0b01110110], .halt),
    ([0b01110111], .ld_atHL_A),
    ([0b01111000], .ld_A_B),
    ([0b01111001], .ld_A_C),
    ([0b01111010], .ld_A_D),
    ([0b01111011], .ld_A_E),
    ([0b01111100], .ld_A_H),
    ([0b01111101], .ld_A_L),
    ([0b01111110], .ld_A_atHL),
    ([0b01111111], .ld_A_A)] : List (List Byte × Instr)).all (fun p => spells p.1 p.2) = true := by decide

theorem test_decode_base_80_to_8F : ([
    ([0b10000000], .add_A_B),
    ([0b10000001], .add_A_C),
    ([0b10000010], .add_A_D),
    ([0b10000011], .add_A_E),
    ([0b10000100], .add_A_H),
    ([0b10000101], .add_A_L),
    ([0b10000110], .add_A_atHL),
    ([0b10000111], .add_A_A),
    ([0b10001000], .adc_A_B),
    ([0b10001001], .adc_A_C),
    ([0b10001010], .adc_A_D),
    ([0b10001011], .adc_A_E),
    ([0b10001100], .adc_A_H),
    ([0b10001101], .adc_A_L),
    ([0b10001110], .adc_A_atHL),
    ([0b10001111], .adc_A_A)] : List (List Byte × Instr)).all (fun p => spells p.1 p.2) = true := by decide

theorem test_decode_base_90_to_9F : ([
    ([0b10010000], .sub_B),
    ([0b10010001], .sub_C),
    ([0b10010010], .sub_D),
    ([0b10010011], .sub_E),
    ([0b10010100], .sub_H),
    ([0b10010101], .sub_L),
    ([0b10010110], .sub_atHL),
    ([0b10010111], .sub_A),
    ([0b10011000], .sbc_A_B),
    ([0b10011001], .sbc_A_C),
    ([0b10011010], .sbc_A_D),
    ([0b10011011], .sbc_A_E),
    ([0b10011100], .sbc_A_H),
    ([0b10011101], .sbc_A_L),
    ([0b10011110], .sbc_A_atHL),
    ([0b10011111], .sbc_A_A)] : List (List Byte × Instr)).all (fun p => spells p.1 p.2) = true := by decide

theorem test_decode_base_A0_to_AF : ([
    ([0b10100000], .and_B),
    ([0b10100001], .and_C),
    ([0b10100010], .and_D),
    ([0b10100011], .and_E),
    ([0b10100100], .and_H),
    ([0b10100101], .and_L),
    ([0b10100110], .and_atHL),
    ([0b10100111], .and_A),
    ([0b10101000], .xor_B),
    ([0b10101001], .xor_C),
    ([0b10101010], .xor_D),
    ([0b10101011], .xor_E),
    ([0b10101100], .xor_H),
    ([0b10101101], .xor_L),
    ([0b10101110], .xor_atHL),
    ([0b10101111], .xor_A)] : List (List Byte × Instr)).all (fun p => spells p.1 p.2) = true := by decide

theorem test_decode_base_B0_to_BF : ([
    ([0b10110000], .or_B),
    ([0b10110001], .or_C),
    ([0b10110010], .or_D),
    ([0b10110011], .or_E),
    ([0b10110100], .or_H),
    ([0b10110101], .or_L),
    ([0b10110110], .or_atHL),
    ([0b10110111], .or_A),
    ([0b10111000], .cp_B),
    ([0b10111001], .cp_C),
    ([0b10111010], .cp_D),
    ([0b10111011], .cp_E),
    ([0b10111100], .cp_H),
    ([0b10111101], .cp_L),
    ([0b10111110], .cp_atHL),
    ([0b10111111], .cp_A)] : List (List Byte × Instr)).all (fun p => spells p.1 p.2) = true := by decide

theorem test_decode_base_C0_to_CF : ([
    ([0b11000000], .ret_NZ),
    ([0b11000001], .pop_BC),
    ([0b11000010, 0b00110100, 0b00010010], (.jp_NZ_nn 0x1234)),
    ([0b11000011, 0b00110100, 0b00010010], (.jp_nn 0x1234)),
    ([0b11000100, 0b00110100, 0b00010010], (.call_NZ_nn 0x1234)),
    ([0b11000101], .push_BC),
    ([0b11000110, 0b01011010], (.add_A_n 0x5A)),
    ([0b11000111], .rst_00h),
    ([0b11001000], .ret_Z),
    ([0b11001001], .ret),
    ([0b11001010, 0b00110100, 0b00010010], (.jp_Z_nn 0x1234)),
    ([0b11001100, 0b00110100, 0b00010010], (.call_Z_nn 0x1234)),
    ([0b11001101, 0b00110100, 0b00010010], (.call_nn 0x1234)),
    ([0b11001110, 0b01011010], (.adc_A_n 0x5A)),
    ([0b11001111], .rst_08h)] : List (List Byte × Instr)).all (fun p => spells p.1 p.2) = true := by decide

theorem test_decode_base_D0_to_DF : ([
    ([0b11010000], .ret_NC),
    ([0b11010001], .pop_DE),
    ([0b11010010, 0b00110100, 0b00010010], (.jp_NC_nn 0x1234)),
    ([0b11010011], (.illegal 0xD3)),
    ([0b11010100, 0b00110100, 0b00010010], (.call_NC_nn 0x1234)),
    ([0b11010101], .push_DE),
    ([0b11010110, 0b01011010], (.sub_n 0x5A)),
    ([0b11010111], .rst_10h),
    ([0b11011000], .ret_C),
    ([0b11011001], .reti),
    ([0b11011010, 0b00110100, 0b00010010], (.jp_C_nn 0x1234)),
    ([0b11011011], (.illegal 0xDB)),
    ([0b11011100, 0b00110100, 0b00010010], (.call_C_nn 0x1234)),
    ([0b11011101], (.illegal 0xDD)),
    ([0b11011110, 0b01011010], (.sbc_A_n 0x5A)),
    ([0b11011111], .rst_18h)] : List (List Byte × Instr)).all (fun p => spells p.1 p.2) = true := by decide

theorem test_decode_base_E0_to_EF : ([
    ([0b11100000, 0b01011010], (.ldh_atN_A 0x5A)),
    ([0b11100001], .pop_HL),
    ([0b11100010], .ld_atC_A),
    ([0b11100011], (.illegal 0xE3)),
    ([0b11100100], (.illegal 0xE4)),
    ([0b11100101], .push_HL),
    ([0b11100110, 0b01011010], (.and_n 0x5A)),
    ([0b11100111], .rst_20h),
    ([0b11101000, 0b11111011], (.add_SP_d 0xFB)),
    ([0b11101001], .jp_HL),
    ([0b11101010, 0b00110100, 0b00010010], (.ld_atNN_A 0x1234)),
    ([0b11101011], (.illegal 0xEB)),
    ([0b11101100], (.illegal 0xEC)),
    ([0b11101101], (.illegal 0xED)),
    ([0b11101110, 0b01011010], (.xor_n 0x5A)),
    ([0b11101111], .rst_28h)] : List (List Byte × Instr)).all (fun p => spells p.1 p.2) = true := by decide

theorem test_decode_base_F0_to_FF : ([
    ([0b11110000, 0b01011010], (.ldh_A_atN 0x5A)),
    ([0b11110001], .pop_AF),
    ([0b11110010], .ld_A_atC),
    ([0b11110011], .di),
    ([0b11110100], (.illegal 0xF4)),
    ([0b11110101], .push_AF),
    ([0b11110110, 0b01011010], (.or_n 0x5A)),
    ([0b11110111], .rst_30h),
    ([0b11111000, 0b11111011], (.ld_HL_SPplusD 0xFB)),
    ([0b11111001], .ld_SP_HL),
    ([0b11111010, 0b00110100, 0b00010010], (.ld_A_atNN 0x1234)),
    ([0b11111011], .ei),
    ([0b11111100], (.illegal 0xFC)),
    ([0b11111101], (.illegal 0xFD)),
    ([0b11111110, 0b01011010], (.cp_n 0x5A)),
    ([0b11111111], .rst_38h)] : List (List Byte × Instr)).all (fun p => spells p.1 p.2) = true := by decide

theorem test_decode_cb_00_to_0F : ([
    ([0b11001011, 0b00000000], .rlc_B),
    ([0b11001011, 0b00000001], .rlc_C),
    ([0b11001011, 0b00000010], .rlc_D),
    ([0b11001011, 0b00000011], .rlc_E),
    ([0b11001011, 0b00000100], .rlc_H),
    ([0b11001011, 0b00000101], .rlc_L),
    ([0b11001011, 0b00000110], .rlc_atHL),
    ([0b11001011, 0b00000111], .rlc_A),
    ([0b11001011, 0b00001000], .rrc_B),
    ([0b11001011, 0b00001001], .rrc_C),
    ([0b11001011, 0b00001010], .rrc_D),
    ([0b11001011, 0b00001011], .rrc_E),
    ([0b11001011, 0b00001100], .rrc_H),
    ([0b11001011, 0b00001101], .rrc_L),
    ([0b11001011, 0b00001110], .rrc_atHL),
    ([0b11001011, 0b00001111], .rrc_A)] : List (List Byte × Instr)).all (fun p => spells p.1 p.2) = true := by decide

theorem test_decode_cb_10_to_1F : ([
    ([0b11001011, 0b00010000], .rl_B),
    ([0b11001011, 0b00010001], .rl_C),
    ([0b11001011, 0b00010010], .rl_D),
    ([0b11001011, 0b00010011], .rl_E),
    ([0b11001011, 0b00010100], .rl_H),
    ([0b11001011, 0b00010101], .rl_L),
    ([0b11001011, 0b00010110], .rl_atHL),
    ([0b11001011, 0b00010111], .rl_A),
    ([0b11001011, 0b00011000], .rr_B),
    ([0b11001011, 0b00011001], .rr_C),
    ([0b11001011, 0b00011010], .rr_D),
    ([0b11001011, 0b00011011], .rr_E),
    ([0b11001011, 0b00011100], .rr_H),
    ([0b11001011, 0b00011101], .rr_L),
    ([0b11001011, 0b00011110], .rr_atHL),
    ([0b11001011, 0b00011111], .rr_A)] : List (List Byte × Instr)).all (fun p => spells p.1 p.2) = true := by decide

theorem test_decode_cb_20_to_2F : ([
    ([0b11001011, 0b00100000], .sla_B),
    ([0b11001011, 0b00100001], .sla_C),
    ([0b11001011, 0b00100010], .sla_D),
    ([0b11001011, 0b00100011], .sla_E),
    ([0b11001011, 0b00100100], .sla_H),
    ([0b11001011, 0b00100101], .sla_L),
    ([0b11001011, 0b00100110], .sla_atHL),
    ([0b11001011, 0b00100111], .sla_A),
    ([0b11001011, 0b00101000], .sra_B),
    ([0b11001011, 0b00101001], .sra_C),
    ([0b11001011, 0b00101010], .sra_D),
    ([0b11001011, 0b00101011], .sra_E),
    ([0b11001011, 0b00101100], .sra_H),
    ([0b11001011, 0b00101101], .sra_L),
    ([0b11001011, 0b00101110], .sra_atHL),
    ([0b11001011, 0b00101111], .sra_A)] : List (List Byte × Instr)).all (fun p => spells p.1 p.2) = true := by decide

theorem test_decode_cb_30_to_3F : ([
    ([0b11001011, 0b00110000], .swap_B),
    ([0b11001011, 0b00110001], .swap_C),
    ([0b11001011, 0b00110010], .swap_D),
    ([0b11001011, 0b00110011], .swap_E),
    ([0b11001011, 0b00110100], .swap_H),
    ([0b11001011, 0b00110101], .swap_L),
    ([0b11001011, 0b00110110], .swap_atHL),
    ([0b11001011, 0b00110111], .swap_A),
    ([0b11001011, 0b00111000], .srl_B),
    ([0b11001011, 0b00111001], .srl_C),
    ([0b11001011, 0b00111010], .srl_D),
    ([0b11001011, 0b00111011], .srl_E),
    ([0b11001011, 0b00111100], .srl_H),
    ([0b11001011, 0b00111101], .srl_L),
    ([0b11001011, 0b00111110], .srl_atHL),
    ([0b11001011, 0b00111111], .srl_A)] : List (List Byte × Instr)).all (fun p => spells p.1 p.2) = true := by decide

theorem test_decode_cb_40_to_4F : ([
    ([0b11001011, 0b01000000], .bit_0_B),
    ([0b11001011, 0b01000001], .bit_0_C),
    ([0b11001011, 0b01000010], .bit_0_D),
    ([0b11001011, 0b01000011], .bit_0_E),
    ([0b11001011, 0b01000100], .bit_0_H),
    ([0b11001011, 0b01000101], .bit_0_L),
    ([0b11001011, 0b01000110], .bit_0_atHL),
    ([0b11001011, 0b01000111], .bit_0_A),
    ([0b11001011, 0b01001000], .bit_1_B),
    ([0b11001011, 0b01001001], .bit_1_C),
    ([0b11001011, 0b01001010], .bit_1_D),
    ([0b11001011, 0b01001011], .bit_1_E),
    ([0b11001011, 0b01001100], .bit_1_H),
    ([0b11001011, 0b01001101], .bit_1_L),
    ([0b11001011, 0b01001110], .bit_1_atHL),
    ([0b11001011, 0b01001111], .bit_1_A)] : List (List Byte × Instr)).all (fun p => spells p.1 p.2) = true := by decide

theorem test_decode_cb_50_to_5F : ([
    ([0b11001011, 0b01010000], .bit_2_B),
    ([0b11001011, 0b01010001], .bit_2_C),
    ([0b11001011, 0b01010010], .bit_2_D),
    ([0b11001011, 0b01010011], .bit_2_E),
    ([0b11001011, 0b01010100], .bit_2_H),
    ([0b11001011, 0b01010101], .bit_2_L),
    ([0b11001011, 0b01010110], .bit_2_atHL),
    ([0b11001011, 0b01010111], .bit_2_A),
    ([0b11001011, 0b01011000], .bit_3_B),
    ([0b11001011, 0b01011001], .bit_3_C),
    ([0b11001011, 0b01011010], .bit_3_D),
    ([0b11001011, 0b01011011], .bit_3_E),
    ([0b11001011, 0b01011100], .bit_3_H),
    ([0b11001011, 0b01011101], .bit_3_L),
    ([0b11001011, 0b01011110], .bit_3_atHL),
    ([0b11001011, 0b01011111], .bit_3_A)] : List (List Byte × Instr)).all (fun p => spells p.1 p.2) = true := by decide

theorem test_decode_cb_60_to_6F : ([
    ([0b11001011, 0b01100000], .bit_4_B),
    ([0b11001011, 0b01100001], .bit_4_C),
    ([0b11001011, 0b01100010], .bit_4_D),
    ([0b11001011, 0b01100011], .bit_4_E),
    ([0b11001011, 0b01100100], .bit_4_H),
    ([0b11001011, 0b01100101], .bit_4_L),
    ([0b11001011, 0b01100110], .bit_4_atHL),
    ([0b11001011, 0b01100111], .bit_4_A),
    ([0b11001011, 0b01101000], .bit_5_B),
    ([0b11001011, 0b01101001], .bit_5_C),
    ([0b11001011, 0b01101010], .bit_5_D),
    ([0b11001011, 0b01101011], .bit_5_E),
    ([0b11001011, 0b01101100], .bit_5_H),
    ([0b11001011, 0b01101101], .bit_5_L),
    ([0b11001011, 0b01101110], .bit_5_atHL),
    ([0b11001011, 0b01101111], .bit_5_A)] : List (List Byte × Instr)).all (fun p => spells p.1 p.2) = true := by decide

theorem test_decode_cb_70_to_7F : ([
    ([0b11001011, 0b01110000], .bit_6_B),
    ([0b11001011, 0b01110001], .bit_6_C),
    ([0b11001011, 0b01110010], .bit_6_D),
    ([0b11001011, 0b01110011], .bit_6_E),
    ([0b11001011, 0b01110100], .bit_6_H),
    ([0b11001011, 0b01110101], .bit_6_L),
    ([0b11001011, 0b01110110], .bit_6_atHL),
    ([0b11001011, 0b01110111], .bit_6_A),
    ([0b11001011, 0b01111000], .bit_7_B),
    ([0b11001011, 0b01111001], .bit_7_C),
    ([0b11001011, 0b01111010], .bit_7_D),
    ([0b11001011, 0b01111011], .bit_7_E),
    ([0b11001011, 0b01111100], .bit_7_H),
    ([0b11001011, 0b01111101], .bit_7_L),
    ([0b11001011, 0b01111110], .bit_7_atHL),
    ([0b11001011, 0b01111111], .bit_7_A)] : List (List Byte × Instr)).all (fun p => spells p.1 p.2) = true := by decide

theorem test_decode_cb_80_to_8F : ([
    ([0b11001011, 0b10000000], .res_0_B),
    ([0b11001011, 0b10000001], .res_0_C),
    ([0b11001011, 0b10000010], .res_0_D),
    ([0b11001011, 0b10000011], .res_0_E),
    ([0b11001011, 0b10000100], .res_0_H),
    ([0b11001011, 0b10000101], .res_0_L),
    ([0b11001011, 0b10000110], .res_0_atHL),
    ([0b11001011, 0b10000111], .res_0_A),
    ([0b11001011, 0b10001000], .res_1_B),
    ([0b11001011, 0b10001001], .res_1_C),
    ([0b11001011, 0b10001010], .res_1_D),
    ([0b11001011, 0b10001011], .res_1_E),
    ([0b11001011, 0b10001100], .res_1_H),
    ([0b11001011, 0b10001101], .res_1_L),
    ([0b11001011, 0b10001110], .res_1_atHL),
    ([0b11001011, 0b10001111], .res_1_A)] : List (List Byte × Instr)).all (fun p => spells p.1 p.2) = true := by decide

theorem test_decode_cb_90_to_9F : ([
    ([0b11001011, 0b10010000], .res_2_B),
    ([0b11001011, 0b10010001], .res_2_C),
    ([0b11001011, 0b10010010], .res_2_D),
    ([0b11001011, 0b10010011], .res_2_E),
    ([0b11001011, 0b10010100], .res_2_H),
    ([0b11001011, 0b10010101], .res_2_L),
    ([0b11001011, 0b10010110], .res_2_atHL),
    ([0b11001011, 0b10010111], .res_2_A),
    ([0b11001011, 0b10011000], .res_3_B),
    ([0b11001011, 0b10011001], .res_3_C),
    ([0b11001011, 0b10011010], .res_3_D),
    ([0b11001011, 0b10011011], .res_3_E),
    ([0b11001011, 0b10011100], .res_3_H),
    ([0b11001011, 0b10011101], .res_3_L),
    ([0b11001011, 0b10011110], .res_3_atHL),
    ([0b11001011, 0b10011111], .res_3_A)] : List (List Byte × Instr)).all (fun p => spells p.1 p.2) = true := by decide

theorem test_decode_cb_A0_to_AF : ([
    ([0b11001011, 0b10100000], .res_4_B),
    ([0b11001011, 0b10100001], .res_4_C),
    ([0b11001011, 0b10100010], .res_4_D),
    ([0b11001011, 0b10100011], .res_4_E),
    ([0b11001011, 0b10100100], .res_4_H),
    ([0b11001011, 0b10100101], .res_4_L),
    ([0b11001011, 0b10100110], .res_4_atHL),
    ([0b11001011, 0b10100111], .res_4_A),
    ([0b11001011, 0b10101000], .res_5_B),
    ([0b11001011, 0b10101001], .res_5_C),
    ([0b11001011, 0b10101010], .res_5_D),
    ([0b11001011, 0b10101011], .res_5_E),
    ([0b11001011, 0b10101100], .res_5_H),
    ([0b11001011, 0b10101101], .res_5_L),
    ([0b11001011, 0b10101110], .res_5_atHL),
    ([0b11001011, 0b10101111], .res_5_A)] : List (List Byte × Instr)).all (fun p => spells p.1 p.2) = true := by decide

theorem test_decode_cb_B0_to_BF : ([
    ([0b11001011, 0b10110000], .res_6_B),
    ([0b11001011, 0b10110001], .res_6_C),
    ([0b11001011, 0b10110010], .res_6_D),
    ([0b11001011, 0b10110011], .res_6_E),
    ([0b11001011, 0b10110100], .res_6_H),
    ([0b11001011, 0b10110101], .res_6_L),
    ([0b11001011, 0b10110110], .res_6_atHL),
    ([0b11001011, 0b10110111], .res_6_A),
    ([0b11001011, 0b10111000], .res_7_B),
    ([0b11001011, 0b10111001], .res_7_C),
    ([0b11001011, 0b10111010], .res_7_D),
    ([0b11001011, 0b10111011], .res_7_E),
    ([0b11001011, 0b10111100], .res_7_H),
    ([0b11001011, 0b10111101], .res_7_L),
    ([0b11001011, 0b10111110], .res_7_atHL),
    ([0b11001011, 0b10111111], .res_7_A)] : List (List Byte × Instr)).all (fun p => spells p.1 p.2) = true := by decide

theorem test_decode_cb_C0_to_CF : ([
    ([0b11001011, 0b11000000], .set_0_B),
    ([0b11001011, 0b11000001], .set_0_C),
    ([0b11001011, 0b11000010], .set_0_D),
    ([0b11001011, 0b11000011], .set_0_E),
    ([0b11001011, 0b11000100], .set_0_H),
    ([0b11001011, 0b11000101], .set_0_L),
    ([0b11001011, 0b11000110], .set_0_atHL),
    ([0b11001011, 0b11000111], .set_0_A),
    ([0b11001011, 0b11001000], .set_1_B),
    ([0b11001011, 0b11001001], .set_1_C),
    ([0b11001011, 0b11001010], .set_1_D),
    ([0b11001011, 0b11001011], .set_1_E),
    ([0b11001011, 0b11001100], .set_1_H),
    ([0b11001011, 0b11001101], .set_1_L),
    ([0b11001011, 0b11001110], .set_1_atHL),
    ([0b11001011, 0b11001111], .set_1_A)] : List (List Byte × Instr)).all (fun p => spells p.1 p.2) = true := by decide

theorem test_decode_cb_D0_to_DF : ([
    ([0b11001011, 0b11010000], .set_2_B),
    ([0b11001011, 0b11010001], .set_2_C),
    ([0b11001011, 0b11010010], .set_2_D),
    ([0b11001011, 0b11010011], .set_2_E),
    ([0b11001011, 0b11010100], .set_2_H),
    ([0b11001011, 0b11010101], .set_2_L),
    ([0b11001011, 0b11010110], .set_2_atHL),
    ([0b11001011, 0b11010111], .set_2_A),
    ([0b11001011, 0b11011000], .set_3_B),
    ([0b11001011, 0b11011001], .set_3_C),
    ([0b11001011, 0b11011010], .set_3_D),
    ([0b11001011, 0b11011011], .set_3_E),
    ([0b11001011, 0b11011100], .set_3_H),
    ([0b11001011, 0b11011101], .set_3_L),
    ([0b11001011, 0b11011110], .set_3_atHL),
    ([0b11001011, 0b11011111], .set_3_A)] : List (List Byte × Instr)).all (fun p => spells p.1 p.2) = true := by decide

theorem test_decode_cb_E0_to_EF : ([
    ([0b11001011, 0b11100000], .set_4_B),
    ([0b11001011, 0b11100001], .set_4_C),
    ([0b11001011, 0b11100010], .set_4_D),
    ([0b11001011, 0b11100011], .set_4_E),
    ([0b11001011, 0b11100100], .set_4_H),
    ([0b11001011, 0b11100101], .set_4_L),
    ([0b11001011, 0b11100110], .set_4_atHL),
    ([0b11001011, 0b11100111], .set_4_A),
    ([0b11001011, 0b11101000], .set_5_B),
    ([0b11001011, 0b11101001], .set_5_C),
    ([0b11001011, 0b11101010], .set_5_D),
    ([0b11001011, 0b11101011], .set_5_E),
    ([0b11001011, 0b11101100], .set_5_H),
    ([0b11001011, 0b11101101], .set_5_L),
    ([0b11001011, 0b11101110], .set_5_atHL),
    ([0b11001011, 0b11101111], .set_5_A)] : List (List Byte × Instr)).all (fun p => spells p.1 p.2) = true := by decide

theorem test_decode_cb_F0_to_FF : ([
    ([0b11001011, 0b11110000], .set_6_B),
    ([0b11001011, 0b11110001], .set_6_C),
    ([0b11001011, 0b11110010], .set_6_D),
    ([0b11001011, 0b11110011], .set_6_E),
    ([0b11001011, 0b11110100], .set_6_H),
    ([0b11001011, 0b11110101], .set_6_L),
    ([0b11001011, 0b11110110], .set_6_atHL),
    ([0b11001011, 0b11110111], .set_6_A),
    ([0b11001011, 0b11111000], .set_7_B),
    ([0b11001011, 0b11111001], .set_7_C),
    ([0b11001011, 0b11111010], .set_7_D),
    ([0b11001011, 0b11111011], .set_7_E),
    ([0b11001011, 0b11111100], .set_7_H),
    ([0b11001011, 0b11111101], .set_7_L),
    ([0b11001011, 0b11111110], .set_7_atHL),
    ([0b11001011, 0b11111111], .set_7_A)] : List (List Byte × Instr)).all (fun p => spells p.1 p.2) = true := by decide

/-! ### The table's words, the tiers, the tables -/

/-- The escape byte alone is refused: byte number 1 is missing (R245). -/
theorem test_escape_byte_alone_is_truncated : decode [0xCB] = .truncated 1 := by decide

/-- A missing immediate byte is refused by its number (R95). -/
theorem test_missing_operand_bytes_are_named :
    decode [] = .truncated 0 ∧ decode [0x01] = .truncated 1 ∧ decode [0x01, 0x34] = .truncated 2 ∧
    decode [0x18] = .truncated 1 := by decide

/-- Row `SRA_H` of the opcode table, match 0xCB2C: the escape byte stands in bits 15 to 8. -/
theorem test_table_word_of_a_cb_row : decodeTableWord 16 0xCB2C = some .sra_H := by decide

/-- Row `CALL_nn`, match 0xCD: operand bytes the table gives no bits are 0. -/
theorem test_table_word_of_a_base_row : decodeTableWord 8 0xCD = some (.call_nn 0x0000) := by decide

/-- T1 of the vectors: of 500 instruction slots, 221 are not null under `IMPL_GB`. -/
theorem test_impl_gb_leaves_221_of_500 :
    (allSlots.filter (fun s => (lookup s).isInstruction)).length = 500 ∧ implGB.length = 500 - 221 := by
  decide +kernel

/-- T2: the instances the vectors give. -/
theorem test_bit_fields :
    fields 0x21 = ⟨0, 4, 1, 2, 0⟩ ∧ fields 0xCB = ⟨3, 1, 3, 0, 1⟩ ∧ fields 0xFF = ⟨3, 7, 7, 3, 1⟩ ∧
    fields 0x76 = ⟨1, 6, 6, 3, 0⟩ := by decide

/-! ### One step: helpers -/

/-- The vectors' start state: every register 0. -/
def blank : State := State.resetWith Config.standard ResetRegs.zero

/-- The vectors' start state under `ROT_FLAGS = lr35902`. -/
def blankLR : State := State.resetWith { nullSlots := [], rotFlags := .lr35902 } ResetRegs.zero

/-- The vectors' start state under `IMPL_GB`. -/
def blankGB : State := State.resetWith { nullSlots := implGB, rotFlags := .gb } ResetRegs.zero

/-- A property of the next state an outcome answers. -/
def goesTo (r : Result) (p : State → Bool) : Bool :=
  match r with
  | .next t => p t
  | _ => false

/-- One step with the bytes loaded at address 0. -/
def stepOn (bytes : List Byte) (s : State) : Result := step { s with image := bytes }

/-! ### Loads -/

theorem test_S2 : goesTo (stepOn [0x21, 0x34, 0x12] blank)
    (fun t => t.hl == 0x1234 && t.h == 0x12 && t.l == 0x34 && t.pc == 3 && t.tickCount == 1) = true := by
  decide
theorem test_L1 : goesTo (stepOn [0x66] { blank with h := 0xC0, mem := [(0xC000, 0x12)] })
    (fun t => t.hl == 0x1200 && t.pc == 1) = true := by decide
theorem test_L2 : goesTo (stepOn [0x75] { blank with h := 0xC0, l := 0xC1 })
    (fun t => t.mem == [(0xC0C1, 0xC1)] && t.pc == 1) = true := by decide
theorem test_L3 : stepOn [0x7F] { blank with a := 0x77, f := 0xF0 } =
    .next { blank with a := 0x77, f := 0xF0, image := [0x7F], pc := 1, tickCount := 1 } := by rfl
theorem test_L4 : goesTo (stepOn [0x31, 0xFE, 0xFF] blank) (fun t => t.sp == 0xFFFE && t.pc == 3) = true := by
  decide
theorem test_L5 : goesTo (stepOn [0x22] { blank with a := 0xAA, h := 0xFF, l := 0xFF })
    (fun t => t.mem == [(0xFFFF, 0xAA)] && t.hl == 0 && t.f == 0) = true := by decide
theorem test_L6 : goesTo (stepOn [0x3A] { blank with mem := [(0, 0x33)] })
    (fun t => t.a == 0x33 && t.hl == 0xFFFF) = true := by decide
theorem test_L7 : goesTo (stepOn [0x08, 0xFF, 0xFF] { blank with sp := 0x1234 })
    (fun t => t.mem == [(0, 0x12), (0xFFFF, 0x34)] && t.pc == 3) = true := by decide
theorem test_L8 : goesTo (stepOn [0xE0, 0xFF] { blank with a := 0x1F })
    (fun t => t.mem == [(0xFFFF, 0x1F)] && t.pc == 2) = true := by decide
theorem test_L9 : goesTo (stepOn [0xF2] { blank with c := 0x80, mem := [(0xFF80, 0x5A)] })
    (fun t => t.a == 0x5A && t.pc == 1) = true := by decide
theorem test_L10 : goesTo (stepOn [0x36, 0x99] { blank with h := 0xD1, l := 0x23, f := 0xF0 })
    (fun t => t.mem == [(0xD123, 0x99)] && t.f == 0xF0 && t.pc == 2) = true := by decide
theorem test_L11 : exec .nop { blank with pc := 0xFFFF } = .next { blank with pc := 0, tickCount := 1 } := by
  rfl
theorem test_L12 : goesTo (stepOn [0x1A] { blank with a := 0x11 }) (fun t => t.a == 0) = true := by
  decide
/-- A store of the value an unlisted address reads as leaves nothing listed. -/
theorem test_storing_zero_unlists : goesTo (stepOn [0x36, 0x00] { blank with mem := [(0, 0x12)] })
    (fun t => t.mem == []) = true := by decide

/-! ### Increment and decrement -/

theorem test_I1 : goesTo (stepOn [0x04] { blank with b := 0x0F, f := 0x10 })
    (fun t => t.b == 0x10 && t.f == 0x30) = true := by decide
theorem test_I3 : goesTo (stepOn [0x3D] { blank with a := 0x00, f := 0x10 })
    (fun t => t.a == 0xFF && t.f == 0x70) = true := by decide
theorem test_I4 : goesTo (stepOn [0x3D] { blank with a := 0x10 })
    (fun t => t.a == 0x0F && t.f == 0x60) = true := by decide
theorem test_I5 : goesTo (stepOn [0x33] { blank with sp := 0xFFFF, f := 0xF0 })
    (fun t => t.sp == 0 && t.f == 0xF0) = true := by decide
theorem test_I6 : goesTo (stepOn [0x1B] { blank with e := 1 }) (fun t => t.de == 0 && t.f == 0) = true := by
  decide
theorem test_I7 : goesTo (stepOn [0x34] { blank with h := 0xC0, mem := [(0xC000, 0xFF)] })
    (fun t => t.mem == [] && t.f == 0xA0) = true := by decide

/-! ### 8-bit arithmetic and logic -/

theorem test_A1 : goesTo (stepOn [0x87] { blank with a := 0x80 })
    (fun t => t.a == 0 && t.f == 0x90 && t.pc == 1) = true := by decide
theorem test_A2 : goesTo (stepOn [0xC6, 0x01] { blank with a := 0xFF })
    (fun t => t.a == 0 && t.f == 0xB0 && t.pc == 2) = true := by decide
theorem test_A3 : goesTo (stepOn [0x86] { blank with a := 0x3A, h := 0xC0, mem := [(0xC000, 0xC6)] })
    (fun t => t.a == 0 && t.f == 0xB0) = true := by decide
theorem test_A4 : goesTo (stepOn [0xCE, 0x00] { blank with a := 0xFF, f := 0x10 })
    (fun t => t.a == 0 && t.f == 0xB0 && t.pc == 2) = true := by decide
theorem test_A5 : goesTo (stepOn [0x8F] { blank with a := 0x0F, f := 0x10 })
    (fun t => t.a == 0x1F && t.f == 0x20) = true := by decide
theorem test_A6 : goesTo (stepOn [0x97] { blank with a := 0x42 })
    (fun t => t.a == 0 && t.f == 0xC0) = true := by decide
theorem test_A7 : goesTo (stepOn [0xD6, 0x01] { blank with a := 0x10 })
    (fun t => t.a == 0x0F && t.f == 0x60) = true := by decide
theorem test_A8 : goesTo (stepOn [0xDE, 0xFF] { blank with f := 0x10 })
    (fun t => t.a == 0 && t.f == 0xF0) = true := by decide
theorem test_A9 : goesTo (stepOn [0xA7] { blank with f := 0x10 })
    (fun t => t.a == 0 && t.f == 0xA0) = true := by decide
theorem test_A10 : goesTo (stepOn [0xE6, 0x3C] { blank with a := 0xA5 })
    (fun t => t.a == 0x24 && t.f == 0x20) = true := by decide
theorem test_A11 : goesTo (stepOn [0xB7] { blank with f := 0x70 })
    (fun t => t.a == 0 && t.f == 0x80) = true := by decide
theorem test_A12 : goesTo (stepOn [0xF6, 0x0F] { blank with a := 0xF0, f := 0xF0 })
    (fun t => t.a == 0xFF && t.f == 0) = true := by decide
theorem test_A13 : goesTo (stepOn [0xEE, 0xFF] { blank with a := 0x0F, f := 0xF0 })
    (fun t => t.a == 0xF0 && t.f == 0) = true := by decide
theorem test_A14 : goesTo (stepOn [0xAE] { blank with a := 0xFF, h := 0xC0, mem := [(0xC000, 0xFF)] })
    (fun t => t.a == 0 && t.f == 0x80) = true := by decide
theorem test_A16 : goesTo (stepOn [0xFE, 0x01] blank) (fun t => t.a == 0 && t.f == 0x70) = true := by
  decide
theorem test_A17 : goesTo (stepOn [0xB8] { blank with a := 0x3C, b := 0x2F })
    (fun t => t.a == 0x3C && t.f == 0x60) = true := by decide
theorem test_A20 : goesTo (stepOn [0x27] { blank with a := 0x0F, f := 0x60 })
    (fun t => t.a == 0x09 && t.f == 0x40) = true := by decide
theorem test_A23 : goesTo (stepOn [0x27] { blank with a := 0x9A })
    (fun t => t.a == 0 && t.f == 0x90) = true := by decide
theorem test_A24 : goesTo (stepOn [0x2F] { blank with a := 0x35, f := 0x80 })
    (fun t => t.a == 0xCA && t.f == 0xE0) = true := by decide
theorem test_A25 : goesTo (stepOn [0x37] { blank with f := 0xE0 }) (fun t => t.f == 0x90) = true := by
  decide
theorem test_A26 : goesTo (stepOn [0x3F] { blank with f := 0xF0 }) (fun t => t.f == 0x80) = true := by
  decide

/-! ### Bit test, rotates, shifts -/

theorem test_B1 : goesTo (stepOn [0xCB, 0x46] { blank with h := 0xC0, mem := [(0xC000, 1)], f := 0xF0 })
    (fun t => t.f == 0x30 && t.mem == [(0xC000, 1)] && t.pc == 2) = true := by decide
theorem test_B3 : goesTo (stepOn [0xCB, 0x7F] { blank with a := 0x80, f := 0xC0 })
    (fun t => t.a == 0x80 && t.f == 0x20) = true := by decide
theorem test_B4 :
    goesTo (stepOn [0xCB, 0x07] { blank with f := 0x60 }) (fun t => t.a == 0 && t.f == 0x60) = true ∧
    goesTo (stepOn [0xCB, 0x07] { blankLR with f := 0x60 }) (fun t => t.a == 0 && t.f == 0x80) = true := by
  decide
theorem test_B5 :
    goesTo (stepOn [0xCB, 0x10] { blank with b := 0x80 }) (fun t => t.b == 0 && t.f == 0x10) = true ∧
    goesTo (stepOn [0xCB, 0x10] { blankLR with b := 0x80 }) (fun t => t.b == 0 && t.f == 0x90) = true := by
  decide
theorem test_B6 :
    goesTo (stepOn [0xCB, 0x16] { blank with h := 0xC0, mem := [(0xC000, 0x7F)], f := 0x90 })
      (fun t => t.mem == [(0xC000, 0xFF)] && t.f == 0x80) = true ∧
    goesTo (stepOn [0xCB, 0x16] { blankLR with h := 0xC0, mem := [(0xC000, 0x7F)], f := 0x90 })
      (fun t => t.mem == [(0xC000, 0xFF)] && t.f == 0x00) = true := by decide
theorem test_B7 :
    goesTo (stepOn [0x07] { blank with f := 0xE0 }) (fun t => t.a == 0 && t.f == 0xE0) = true ∧
    goesTo (stepOn [0x07] { blankLR with f := 0xE0 }) (fun t => t.a == 0 && t.f == 0x00) = true := by
  decide
theorem test_B8 :
    goesTo (stepOn [0x17] { blank with a := 0x7F, f := 0xF0 }) (fun t => t.a == 0xFF && t.f == 0xE0) = true ∧
    goesTo (stepOn [0x17] { blankLR with a := 0x7F, f := 0xF0 })
      (fun t => t.a == 0xFF && t.f == 0x00) = true := by decide
theorem test_B9 : goesTo (stepOn [0xCB, 0x0E] { blank with h := 0xC0, mem := [(0xC000, 1)] })
    (fun t => t.mem == [(0xC000, 0x80)] && t.f == 0x10) = true := by decide
theorem test_B10 : goesTo (stepOn [0xCB, 0x18] { blank with b := 1 })
    (fun t => t.b == 0 && t.f == 0x90) = true := by decide
theorem test_B11 : goesTo (stepOn [0xCB, 0x20] { blank with b := 0x80 })
    (fun t => t.b == 0 && t.f == 0x90) = true := by decide
theorem test_B12 : goesTo (stepOn [0xCB, 0x2F] { blank with a := 0xFF })
    (fun t => t.a == 0xFF && t.f == 0x10) = true := by decide
/-- R190's worked example. -/
theorem test_swap : goesTo (stepOn [0xCB, 0x37] { blank with a := 0xF1, f := 0x10 })
    (fun t => t.a == 0x1F && t.f == 0) = true := by decide
theorem test_B14 : goesTo (stepOn [0xCB, 0x38] { blank with b := 1 })
    (fun t => t.b == 0 && t.f == 0x90) = true := by decide
theorem test_B15 : goesTo (stepOn [0x0F] { blank with a := 1, f := 0x80 })
    (fun t => t.a == 0x80 && t.f == 0x10) = true := by decide
theorem test_B16 : goesTo (stepOn [0x1F] { blank with a := 1 })
    (fun t => t.a == 0 && t.f == 0x10) = true := by decide
theorem test_B17 : goesTo (stepOn [0xCB, 0xB6] { blank with h := 0xC0, mem := [(0xC000, 0xFF)], f := 0xF0 })
    (fun t => t.mem == [(0xC000, 0xBF)] && t.f == 0xF0) = true := by decide
theorem test_B18 : goesTo (stepOn [0xCB, 0xCB] { blank with f := 0x50 })
    (fun t => t.e == 0x02 && t.f == 0x50 && t.pc == 2) = true := by decide

/-! ### Jumps (with `pc` at the vector's address) -/

theorem test_J3 : goesTo (exec (.jr_d 0x80) { blank with pc := 0x0100 }) (fun t => t.pc == 0x0082) = true := by
  decide
theorem test_J4 : goesTo (exec (.jr_d 0x10) { blank with pc := 0xFFFE }) (fun t => t.pc == 0x0010) = true := by
  decide
theorem test_J6 : goesTo (exec (.jr_NC_d 0x05) { blank with pc := 0x0020, f := 0x10 })
    (fun t => t.pc == 0x0022) = true := by decide
theorem test_J7 : goesTo (exec (.jr_C_d 0xFA) { blank with pc := 0x0020, f := 0x10 })
    (fun t => t.pc == 0x001C) = true := by decide
theorem test_J8 : goesTo (stepOn [0xC3, 0x00, 0x80] blank) (fun t => t.pc == 0x8000) = true := by
  decide
theorem test_J9 : goesTo (stepOn [0xD2, 0x34, 0x12] { blank with f := 0x10 })
    (fun t => t.pc == 0x0003) = true := by decide
theorem test_J10 : goesTo (stepOn [0xDA, 0x34, 0x12] { blank with f := 0x10 })
    (fun t => t.pc == 0x1234) = true := by decide
theorem test_J11 : goesTo (stepOn [0xE9] { blank with h := 0xAB, l := 0xCD, mem := [(0xABCD, 0x11)] })
    (fun t => t.pc == 0xABCD) = true := by decide

/-! ### Stack, call, return -/

theorem test_K1 : goesTo (stepOn [0xF5] { blank with a := 0x12, f := 0xB0, sp := 1 })
    (fun t => t.mem == [(0, 0x12), (0xFFFF, 0xB0)] && t.sp == 0xFFFF) = true := by decide
theorem test_K2 : goesTo (stepOn [0xE1] { blank with sp := 0xFFFF, mem := [(0, 0x12), (0xFFFF, 0x34)] })
    (fun t => t.hl == 0x1234 && t.sp == 1) = true := by decide
theorem test_K3 : goesTo (stepOn [0xF1] { blank with sp := 0xC000, mem := [(0xC000, 0x5F), (0xC001, 0x12)] })
    (fun t => t.a == 0x12 && t.f == 0x50 && t.sp == 0xC002) = true := by decide
/-- S4, first step. -/
theorem test_S4 : goesTo (stepOn [0xC5] { blank with b := 0xBE, c := 0xEF, sp := 0xFFFE })
    (fun t => t.mem == [(0xFFFC, 0xEF), (0xFFFD, 0xBE)] && t.sp == 0xFFFC) = true := by decide
/-- R213's worked example, at 0x0010. -/
theorem test_call : goesTo (exec (.call_nn 0x1234) { blank with pc := 0x0010, sp := 0xFFFE })
    (fun t => t.mem == [(0xFFFC, 0x13)] && t.sp == 0xFFFC && t.pc == 0x1234) = true := by decide
theorem test_K5 : goesTo (exec (.call_nn 0x0100) { blank with pc := 0xFFFD, sp := 0xD000 })
    (fun t => t.mem == [] && t.sp == 0xCFFE && t.pc == 0x0100) = true := by decide
theorem test_K6 : exec (.call_Z_nn 0x0200) { blank with pc := 0x0030, sp := 0xD000 } =
    .next { blank with pc := 0x0033, sp := 0xD000, tickCount := 1 } := by rfl
theorem test_K7 : goesTo (exec .ret_NZ { blank with pc := 0x0040, sp := 0xCFFE, mem := [(0xCFFE, 0x33)] })
    (fun t => t.sp == 0xD000 && t.pc == 0x0033) = true := by decide
theorem test_K8 : goesTo (stepOn [0xD9] { blank with sp := 0xCFFE, mem := [(0xCFFE, 0x78), (0xCFFF, 0x56)] })
    (fun t => t.sp == 0xD000 && t.pc == 0x5678 && t.ime) = true := by decide
/-- R221's worked example, at 0x0150. -/
theorem test_rst : goesTo (exec .rst_28h { blank with pc := 0x0150, sp := 0xE000 })
    (fun t => t.mem == [(0xDFFE, 0x51), (0xDFFF, 0x01)] && t.sp == 0xDFFE && t.pc == 0x0028) = true := by
  decide
theorem test_K10 : goesTo (stepOn [0xC7] blank)
    (fun t => t.mem == [(0xFFFE, 0x01)] && t.sp == 0xFFFE && t.pc == 0) = true := by decide

/-! ### 16-bit addition -/

theorem test_W1 : goesTo (stepOn [0x29] { blank with h := 0x88, f := 0x80 })
    (fun t => t.hl == 0x1000 && t.f == 0xB0) = true := by decide
theorem test_W2 : goesTo (stepOn [0x39] { blank with l := 1, sp := 0xFFFF })
    (fun t => t.hl == 0 && t.f == 0x30) = true := by decide
theorem test_W3 : goesTo (stepOn [0x19] { blank with h := 0x0F, l := 0xFF, e := 1, f := 0xC0 })
    (fun t => t.hl == 0x1000 && t.f == 0xA0) = true := by decide
theorem test_W4 : goesTo (stepOn [0xE8, 0x80] { blank with sp := 0x0080 })
    (fun t => t.sp == 0 && t.f == 0x10 && t.pc == 2) = true := by decide
theorem test_W5 : goesTo (stepOn [0xF8, 0x7F] { blank with sp := 0x0081, f := 0xC0 })
    (fun t => t.hl == 0x0100 && t.f == 0x30 && t.sp == 0x0081) = true := by decide
theorem test_W6 : goesTo (stepOn [0xF8, 0x00] { blank with sp := 0x1234, f := 0xF0 })
    (fun t => t.hl == 0x1234 && t.f == 0) = true := by decide

/-! ### System instructions, faults, null operations -/

theorem test_Y1 : goesTo (stepOn [0xFB, 0xF3] blank) (fun t => t.ime && t.pc == 1) = true := by decide
theorem test_Y2 : goesTo (stepOn [0x76, 0x3C] blank)
    (fun t => t.halted == .halted && t.pc == 1 && t.tickCount == 1 && runInstruction t == (.halted, t)) =
    true := by decide
theorem test_Y3 : stepOn [0x10] blank =
    .next { blank with image := [0x10], fault := some (.outOfBoundsProgramRead 1 0) } := by rfl
theorem test_Y4 : stepOn [0xED, 0x00] blank =
    .next { blank with image := [0xED, 0x00], fault := some (.unrecognizedOpcode 0 0xED) } := by rfl
theorem test_Y5 : stepOn [0x00, 0xFD] { blank with pc := 1, fault := some (.unrecognizedOpcode 1 0xFD) } =
    .fault (.unrecognizedOpcode 1 0xFD) := by rfl
theorem test_Y6 : stepOn [0x01, 0x34] { blank with b := 0x55, c := 0x55 } =
    .next { blank with b := 0x55, c := 0x55, image := [0x01, 0x34],
                       fault := some (.outOfBoundsProgramRead 2 0) } := by rfl
theorem test_Y7 : stepOn [0xCB] blank =
    .next { blank with image := [0xCB], fault := some (.outOfBoundsProgramRead 1 0) } := by rfl
theorem test_Y8 : stepOn [0x20] { blank with f := 0x80 } =
    .next { blank with f := 0x80, image := [0x20], fault := some (.outOfBoundsProgramRead 1 0) } := by rfl
theorem test_Y9 : stepOn [] blank = .next { blank with fault := some (.outOfBoundsProgramRead 0 0) } := by rfl
theorem test_Y10 : stepOn [0x3E, 0x01, 0xE4, 0x3C] { blank with a := 1, pc := 2 } =
    .next { blank with a := 1, pc := 2, image := [0x3E, 0x01, 0xE4, 0x3C],
                       fault := some (.unrecognizedOpcode 2 0xE4) } := by rfl
theorem test_G1 : goesTo (stepOn [0x80] { blank with a := 1, b := 2 }) (fun t => t.a == 3) = true ∧
    runInstruction { blankGB with a := 1, b := 2, image := [0x80] } =
      (.unimplemented { table := .base, byte := 0x80 },
        { blankGB with a := 1, b := 2, image := [0x80], pc := 1, tickCount := 1 }) := by
  decide +kernel
theorem test_G3 : (runInstruction { blankGB with a := 0x12, image := [0xCB, 0x37] }).1 =
      .unimplemented { table := .cb, byte := 0x37 } ∧
    (runInstruction { blankGB with a := 0x12, image := [0xCB, 0x37] }).2.pc = 2 := by decide
theorem test_G5 : goesTo (stepOn [0xD3] blankGB)
    (fun t => t.fault == some (.unrecognizedOpcode 0 0xD3)) = true := by decide
theorem test_G6 : goesTo (stepOn [0xCE] blankGB)
    (fun t => t.fault == some (.outOfBoundsProgramRead 1 0)) = true := by decide

/-! ### Placing a word where the next step fetches -/

theorem test_withFetchWord_runs_the_placed_word :
    step (State.reset.withFetchWord 8 0x3E) = exec (.ld_A_n 0) (State.reset.withFetchWord 8 0x3E) ∧
    step (State.reset.withFetchWord 16 0xCB2C) = exec .sra_H (State.reset.withFetchWord 16 0xCB2C) := by
  exact ⟨rfl, rfl⟩

/-! ### Witnesses: the hypotheses of each obligation are met -/

theorem witness_DecodeOfEncodeIsTheInstruction :
    Instr.wellFormed .nop = true ∧ Instr.wellFormed (.jp_nn 0xFFFF) = true ∧
    Instr.wellFormed (.illegal 0xD3) = true := by decide

theorem witness_EncodeOfDecodeIsTheBytes :
    decode [0x01, 0xFF, 0x00, 0x76] = .ok ⟨.base, 0x01⟩ (.ld_BC_nn 0x00FF) [0x76] ∧
    decode [0xCB, 0xFF] = .ok ⟨.cb, 0xFF⟩ .set_7_A [] := by decide

/-- Running, with an instruction of three bytes at the end of the image. -/
def atJump : State := { blank with image := [0x00, 0xC3, 0x00, 0x80], pc := 1 }

/-- Running, with a `HALT` to fetch. -/
def atHalt : State := { blank with image := [0x76] }

/-- Running, with an undefined byte to fetch. -/
def atUndefined : State := { blank with image := [0xFD] }

/-- Running, past the end of the image. -/
def atEnd : State := { blank with image := [0x00], pc := 1 }

theorem witness_NoTableEntryIsMalformed :
    step atJump = .next { atJump with pc := 0x8000, tickCount := 1 } ∧
    step atUndefined = .next { atUndefined with fault := some (.unrecognizedOpcode 0 0xFD) } :=
  ⟨rfl, rfl⟩

theorem witness_ResetState : ∃ s, s = State.resetWith Config.standard { ResetRegs.zero with a := 1 } :=
  ⟨_, rfl⟩

theorem witness_StepKeepsTheInvariant :
    (Inv atJump ∧ step atJump = .next { atJump with pc := 0x8000, tickCount := 1 }) ∧
    Inv { atUndefined with f := 0xF0, mem := [(0, 1), (65535, 255)] } ∧
    Inv { atUndefined with fault := some (.unrecognizedOpcode 0 0xFD) } := by
  exact ⟨⟨by decide, rfl⟩, by decide, by decide⟩

theorem witness_LoadProgramEffect : ∃ t : State, t = blank.loadProgram [0x00] := ⟨_, rfl⟩

theorem witness_ReadAnswersTheLatestWrite :
    Memory.wf [(0, 1), (65535, 255)] = true ∧ Memory.wf [(0, 0)] = false ∧
    Memory.wf [(1, 1), (0, 1)] = false ∧ Memory.wf [(65536, 1)] = false := by decide

theorem witness_ProgramReads :
    (atJump.image.length ≤ (4 : Word).toNat ∧ (3 : Word).toNat < atJump.image.length) ∧
    atJump.progRead 2 = some 0x00 ∧ atJump.progRead (2 + 1) = some 0x80 := by decide

theorem witness_StepRunsTheDecodedInstruction :
    atJump.Running ∧ decode atJump.window = .ok ⟨.base, 0xC3⟩ (.jp_nn 0x8000) [] ∧
    atJump.config.isNull ⟨.base, 0xC3⟩ = false := by decide

theorem witness_StepRunsTheEncodedInstruction :
    atJump.Running ∧ Instr.wellFormed (.jp_nn 0x8000) = true ∧
    (∀ (k : Nat) (h : k < (encode (.jp_nn 0x8000)).length),
      atJump.progRead (atJump.pc + BitVec.ofNat 16 k) = some (encode (.jp_nn 0x8000))[k]) ∧
    ∀ slot, atJump.config.isNull slot = false := by
  exact ⟨by decide, by decide, by decide, fun _ => rfl⟩

theorem witness_FirstFetchFaultIsRaised :
    (atEnd.Running ∧ atEnd.progRead atEnd.pc = none) ∧
    (State.Running { blank with image := [0xCB] } ∧
      State.progRead { blank with image := [0xCB] } 0 = some 0xCB ∧
      State.progRead { blank with image := [0xCB] } 1 = none) ∧
    (atUndefined.Running ∧ (0xFD : Byte) ∈ undefinedBytes ∧ atUndefined.progRead 0 = some 0xFD) ∧
    (State.Running { blank with image := [0x18] } ∧
      State.progRead { blank with image := [0x18] } 0 = some 0x18 ∧ 2 ≤ slotLen ⟨.base, 0x18⟩ ∧
      State.progRead { blank with image := [0x18] } 1 = none) ∧
    State.Running { blank with image := [0xC3, 0x00] } ∧
      State.progRead { blank with image := [0xC3, 0x00] } 0 = some 0xC3 ∧ slotLen ⟨.base, 0xC3⟩ = 3 ∧
      State.progRead { blank with image := [0xC3, 0x00] } 1 = some 0x00 ∧
      State.progRead { blank with image := [0xC3, 0x00] } 2 = none := by decide

theorem witness_FaultsArePrecise :
    (atEnd.fault = none ∧
      step atEnd = .next { atEnd with fault := some (.outOfBoundsProgramRead 1 1) }) ∧
    atUndefined.fault = none ∧
      step atUndefined = .next { atUndefined with fault := some (.unrecognizedOpcode 0 0xFD) } :=
  ⟨⟨rfl, rfl⟩, rfl, rfl⟩

theorem witness_LatchedStepsDoNothing :
    State.fault { atEnd with fault := some (.outOfBoundsProgramRead 1 1) } =
      some (.outOfBoundsProgramRead 1 1) ∧
    (State.fault { atHalt with halted := .halted } = none ∧
      State.halted { atHalt with halted := .halted } = .halted) ∧
    State.fault { atHalt with halted := .stopped } = none ∧
      State.halted { atHalt with halted := .stopped } = .stopped := by decide

theorem witness_NullOperationsAreSkippedAndRefused :
    State.Running { atJump with config := ⟨[⟨.base, 0xC3⟩], .gb⟩ } ∧
    decode (State.window { atJump with config := ⟨[⟨.base, 0xC3⟩], .gb⟩ }) =
      .ok ⟨.base, 0xC3⟩ (.jp_nn 0x8000) [] ∧
    Config.isNull ⟨[⟨.base, 0xC3⟩], .gb⟩ ⟨.base, 0xC3⟩ = true := by decide

theorem witness_TickCountCountsCompletedSteps :
    (runInstruction atJump).1 = .ok ∧ atJump.Running ∧
    (runInstruction { atJump with config := ⟨[⟨.base, 0xC3⟩], .gb⟩ }).1 = .unimplemented ⟨.base, 0xC3⟩ ∧
    (runInstruction atEnd).1 = .fault (.outOfBoundsProgramRead 1 1) ∧
    (runInstruction { atHalt with halted := .halted }).1 = .halted ∧
    (runInstruction { atHalt with halted := .stopped }).1 = .stopped := by decide

theorem witness_SequentialAdvance :
    Instr.isOperation (.ld_BC_nn 0) = true ∧ (Instr.form (.ld_BC_nn 0)).transfers blank = false ∧
    Instr.isOperation (.jr_Z_d 0) = true ∧ (Instr.form (.jr_Z_d 0)).transfers blank = false := by decide

theorem witness_ImageAndParametersNeverChange :
    exec .halt atHalt = .next { atHalt with halted := .halted, pc := 1, tickCount := 1 } ∧
    step atHalt = .next { atHalt with halted := .halted, pc := 1, tickCount := 1 } := ⟨rfl, rfl⟩

theorem witness_CodeAndDataAreSeparate : Instr.isOperation .ld_A_atHL = true := by decide

theorem witness_OnlyTheirInstructionsChangeImeAndHalted :
    step { blank with image := [0xFB] } =
      .next { blank with image := [0xFB], ime := true, pc := 1, tickCount := 1 } ∧
    step { blank with image := [0x10, 0x00] } =
      .next { blank with image := [0x10, 0x00], halted := .stopped, pc := 2, tickCount := 1 } ∧
    step atJump = .next { atJump with pc := 0x8000, tickCount := 1 } := ⟨rfl, rfl, rfl⟩

theorem witness_EveryStepGoesOnUnderImplAll :
    atHalt.fault = none ∧ atHalt.config.nullSlots = implAll := by decide

theorem witness_EveryInstructionCompletesInItsFrame :
    Instr.isOperation .nop = true ∧ Instr.isOperation (.stop 0xFF) = true ∧
    Instr.isOperation .pop_AF = true := by decide

theorem witness_AFrameIsItsSteps :
    (core.run 1 atJump = .next { atJump with pc := 0x8000, tickCount := 1 } ∧
      State.Running { atJump with pc := 0x8000, tickCount := 1 }) ∧
    ¬ State.Running { atHalt with halted := .halted } ∧
    ¬ State.Running { atEnd with fault := some (.outOfBoundsProgramRead 1 1) } := by
  exact ⟨⟨rfl, by decide⟩, by decide, by decide⟩

theorem witness_StackRoundTrip :
    2 * ([0xBEEF] : List Word).length ≤ 65536 ∧
    2 * (List.replicate 32768 (0xBEEF : Word)).length ≤ 65536 := by
  rw [List.length_replicate]
  decide

/-! The forms that the statements about single instructions name, each with an instruction that has it. -/

theorem witness_LoadRegisterFromRegister :
    Instr.form .ld_A_B = .ldReg .a .b ∧ Instr.form .ld_B_B = .ldReg .b .b := by decide

theorem witness_LoadAndStoreThroughHL :
    Instr.form .ld_H_atHL = .ldFromHL .h ∧ Instr.form .ld_atHL_L = .ldToHL .l := by decide

theorem witness_LoadByteImmediate : Instr.form (.ld_A_n 0xFF) = .ldImm .a 0xFF := by decide

theorem witness_LoadPairImmediate :
    Instr.form (.ld_BC_nn 0) = .ldPairImm .bc 0 ∧ Instr.form (.ld_SP_nn 0xFFFF) = .ldPairImm .sp 0xFFFF := by
  decide

theorem witness_IncrementAndDecrementByte :
    Instr.form .inc_B = .inc8 (.reg .b) ∧ Instr.form .inc_atHL = .inc8 .atHL ∧
    Instr.form .dec_A = .dec8 (.reg .a) ∧ Instr.form .dec_atHL = .dec8 .atHL := by decide

theorem witness_StepPair :
    Instr.form .inc_BC = .inc16 .bc ∧ Instr.form .inc_SP = .inc16 .sp ∧
    Instr.form .dec_HL = .dec16 .hl ∧ Instr.form .dec_SP = .dec16 .sp := by decide

theorem witness_AluOperandSelection :
    Instr.form .add_A_B = .alu .add (.loc (.reg .b)) ∧ Instr.form .cp_atHL = .alu .cp (.loc .atHL) ∧
    Instr.form (.xor_n 0xFF) = .alu .xor (.imm 0xFF) := by decide

theorem witness_AddAndAddWithCarry :
    Instr.form .add_A_A = .alu .add (.loc (.reg .a)) ∧ Instr.form (.add_A_n 0) = .alu .add (.imm 0) ∧
    Instr.form .adc_A_atHL = .alu .adc (.loc .atHL) ∧ Instr.form (.adc_A_n 0) = .alu .adc (.imm 0) ∧
    (1 : Nat) = (if State.flag { blank with f := 0x10 } .c then 1 else 0) := by decide

theorem witness_SubtractAndCompare :
    Instr.form .sub_A = .alu .sub (.loc (.reg .a)) ∧ Instr.form (.sub_n 0) = .alu .sub (.imm 0) ∧
    Instr.form .sbc_A_atHL = .alu .sbc (.loc .atHL) ∧ Instr.form (.sbc_A_n 0) = .alu .sbc (.imm 0) ∧
    Instr.form .cp_B = .alu .cp (.loc (.reg .b)) ∧ Instr.form (.cp_n 0) = .alu .cp (.imm 0) ∧
    (0 : Nat) = (if State.flag blank .c then 1 else 0) := by decide

theorem witness_BitwiseLogic :
    Instr.form .and_A = .alu .and (.loc (.reg .a)) ∧ Instr.form (.and_n 0) = .alu .and (.imm 0) ∧
    Instr.form .xor_atHL = .alu .xor (.loc .atHL) ∧ Instr.form (.xor_n 0) = .alu .xor (.imm 0) ∧
    Instr.form .or_C = .alu .or (.loc (.reg .c)) ∧ Instr.form (.or_n 0) = .alu .or (.imm 0) := by decide

/-- Each arm of `DAA`, at the values where the arms meet. -/
theorem witness_DecimalAdjust :
    State.flag { blank with a := 0x9A } .n = false ∧
    ((0x9A : Byte).toNat % 16 > 9 ∧ (0x9A : Byte).toNat > 0x99) ∧
    ((0x0A : Byte).toNat % 16 > 9 ∧ ¬ (0x0A : Byte).toNat > 0x99) ∧
    (¬ (0xA0 : Byte).toNat % 16 > 9 ∧ (0xA0 : Byte).toNat > 0x99) ∧
    (¬ (0x99 : Byte).toNat % 16 > 9 ∧ ¬ (0x99 : Byte).toNat > 0x99) ∧
    (State.flag blank .h = false ∧ State.flag blank .c = false) ∧
    State.flag { blank with f := 0x70 } .n = true := by decide

theorem witness_RotateLeft :
    Instr.form .rlc_B = .rot .rlc (.reg .b) ∧ Instr.form .rlc_atHL = .rot .rlc .atHL ∧
    Instr.form .rl_A = .rot .rl (.reg .a) ∧ Instr.form .rl_atHL = .rot .rl .atHL ∧
    blank.config.rotFlags = .gb ∧ blankLR.config.rotFlags = .lr35902 ∧
    (∃ res : Byte, res = blank.loc (.reg .a) <<< 1 ||| (if blank.flag .c then 1 else 0)) := by
  exact ⟨rfl, rfl, rfl, rfl, rfl, rfl, _, rfl⟩

theorem witness_RotateRightShiftSwap :
    (Instr.form .rrc_C = .rot .rrc (.reg .c) ∧ RotOp.rrc ≠ .rlc ∧ RotOp.rrc ≠ .rl) ∧
    Instr.form .rr_D = .rot .rr (.reg .d) ∧ Instr.form .sla_A = .rot .sla (.reg .a) ∧
    Instr.form .sra_B = .rot .sra (.reg .b) ∧ Instr.form .swap_atHL = .rot .swap .atHL ∧
    (Instr.form .srl_A = .rot .srl (.reg .a) ∧ RotOp.srl ≠ .rlc ∧ RotOp.srl ≠ .rl) := by decide

theorem witness_BitTestResetAndSet :
    Instr.form .bit_7_H = .bit 7 (.reg .h) ∧ Instr.form .bit_0_atHL = .bit 0 .atHL ∧
    Instr.form .res_0_A = .res 0 (.reg .a) ∧ Instr.form .res_7_atHL = .res 7 .atHL ∧
    Instr.form .set_1_E = .set 1 (.reg .e) ∧ Instr.form .set_7_atHL = .set 7 .atHL := by decide

theorem witness_RelativeJumps :
    Instr.form (.jr_NZ_d 0x80) = .jrIf .nz 0x80 ∧ Instr.form (.jr_C_d 0x7F) = .jrIf .c 0x7F := by decide

theorem witness_AbsoluteJumps :
    Instr.form (.jp_NC_nn 0) = .jpIf .nc 0 ∧ Instr.form (.jp_Z_nn 0xFFFF) = .jpIf .z 0xFFFF := by decide

theorem witness_PushAndPop :
    Instr.form .push_AF = .push .af ∧ Instr.form .push_BC = .push .bc ∧
    (Instr.form .pop_HL = .pop .hl ∧ RP2.hl ≠ .af) := by decide

theorem witness_CallsAndRestart :
    (Instr.form (.call_Z_nn 0x0200) = .callIf .z 0x0200 ∧ State.cond { blank with f := 0x80 } .z = true ∧
      blank.cond .z = false) ∧
    Instr.form .rst_00h = .rst 0 ∧ Instr.form .rst_38h = .rst 7 := by decide

theorem witness_Returns :
    Instr.form .ret_NC = .retIf .nc ∧ blank.cond .nc = true ∧
    State.cond { blank with f := 0x10 } .nc = false := by decide

theorem witness_AddPairToHL : Instr.form .add_HL_SP = .addHL .sp ∧ Instr.form .add_HL_HL = .addHL .hl := by
  decide

theorem witness_UndefinedBytesFault :
    (0xD3 : Byte) ∈ ([0xD3, 0xDB, 0xDD, 0xE3, 0xE4, 0xEB, 0xEC, 0xED, 0xF4, 0xFC, 0xFD] : List Byte) ∧
    atUndefined.Running ∧ atUndefined.progRead atUndefined.pc = some 0xFD := by decide

theorem witness_EscapeSlotReadsTheTrueOpcode :
    State.progRead { blank with image := [0xCB, 0x37] } (0 + 1) = some 0x37 ∧
    State.progRead { blank with image := [0xCB] } (0 + 1) = none := by decide

end Sys2Proof.Tests
end

namespace Sys2Proof.Machine

/-! ### Pairs read after a pair write (R12, R13, R68) -/

section

variable (s : State)

@[simp] theorem bc_setBC (v : Word) : (s.setBC v).bc = v := mkWord_hiByte_loByte v
@[simp] theorem de_setDE (v : Word) : (s.setDE v).de = v := mkWord_hiByte_loByte v
@[simp] theorem hl_setHL (v : Word) : (s.setHL v).hl = v := mkWord_hiByte_loByte v

/-- `AF` keeps every bit of the word but the four that `F` has not (R212). -/
@[simp] theorem af_setRP2_af (v : Word) : (s.setRP2 .af v).af = v &&& 0xFFF0 :=
  calc (s.setRP2 .af v).af
      = mkWord (hiByte v) (maskFlags (loByte v)) := rfl
    _ = mkWord (hiByte v) (loByte v) &&& 0xFFF0 := mkWord_maskFlags _ _
    _ = v &&& 0xFFF0 := by rw [mkWord_hiByte_loByte]

theorem rp2_setRP2 (q : RP2) (v : Word) :
    (s.setRP2 q v).rp2 q = if q = .af then v &&& 0xFFF0 else v := by
  cases q with
  | bc => exact bc_setBC s v
  | de => exact de_setDE s v
  | hl => exact hl_setHL s v
  | af => exact af_setRP2_af s v

end

/-- Settles O27, from the laws of splitting and merging and the read of each pair after its write. -/
theorem pairsReadBackAsWritten : Obligations.PairsReadBackAsWritten :=
  ⟨mkWord_toNat, mkWord_hiByte_loByte, fun hi lo => ⟨hiByte_mkWord hi lo, loByte_mkWord hi lo⟩,
    rp2_setRP2⟩

end Sys2Proof.Machine

namespace Sys2Proof

/-! ### The fields of an opcode byte, as numbers (R63) -/

section

variable (b : Byte)

theorem fields_x_toNat : (fields b).x.toNat = b.toNat / 64 := by
  have hx : (fields b).x.toNat = b.toNat / 64 % 4 := by
    simp [fields, Nat.shiftRight_eq_div_pow]
  omega

theorem fields_y_toNat : (fields b).y.toNat = b.toNat / 8 % 8 := by
  simp [fields, Nat.shiftRight_eq_div_pow]

theorem fields_z_toNat : (fields b).z.toNat = b.toNat % 8 := by
  simp [fields]

/-- The spec gives `p` by `y`; the model reads it off the byte. -/
theorem fields_p_toNat : (fields b).p.toNat = (fields b).y.toNat / 2 := by
  have hp : (fields b).p.toNat = b.toNat / 16 % 4 := by
    simp [fields, Nat.shiftRight_eq_div_pow]
  have hy := fields_y_toNat b
  omega

/-- The spec gives `q` by `y`; the model reads it off the byte. -/
theorem fields_q_toNat : (fields b).q.toNat = (fields b).y.toNat % 2 := by
  have hq : (fields b).q.toNat = b.toNat / 8 % 2 := by
    simp [fields, Nat.shiftRight_eq_div_pow]
  have hy := fields_y_toNat b
  omega

/-- No bit of the byte is lost in x, y and z (R64). -/
theorem fields_xyz_partition :
    (fields b).x.toNat * 64 + (fields b).y.toNat * 8 + (fields b).z.toNat = b.toNat := by
  rw [fields_x_toNat, fields_y_toNat, fields_z_toNat]
  omega

/-- No bit of y is lost in p and q (R64). -/
theorem fields_pq_partition :
    (fields b).p.toNat * 2 + (fields b).q.toNat = (fields b).y.toNat := by
  rw [fields_p_toNat, fields_q_toNat]
  omega

end

/-- Settles O5, from the value of each field and the two sums they make up. -/
theorem bitFieldsPartitionTheOpcode : Obligations.BitFieldsPartitionTheOpcode := fun b =>
  ⟨fields_x_toNat b, fields_y_toNat b, fields_z_toNat b, fields_p_toNat b, fields_q_toNat b,
    fields_xyz_partition b, fields_pq_partition b⟩

end Sys2Proof

namespace Sys2Proof.Machine

/-! ### The frame of a transfer of control (R99, R100) -/

/-- A transfer of control writes `pc` (R100), is counted (R99), and changes nothing else. -/
theorem frame_jumpTo (s : State) (target : Word) : Frame {} s (s.jumpTo target) where
  regs r _ := by cases r <;> rfl
  flags g _ := by cases g <;> rfl
  low _ := rfl
  mem a _ := readMem_jumpTo s target a
  sp _ := rfl
  ime _ := rfl
  halted _ := rfl
  fault := rfl
  image := rfl
  config := rfl
  tick := rfl

/-! ### Relative jumps (R69, R200, R201) -/

theorem exec_jr_d (d : Byte) (s : State) :
    exec (.jr_d d) s = .next (s.jumpTo (s.pc + 2 + sext16 d)) := rfl

theorem encode_of_form_jrIf {i : Instr} {k : Cond} {d : Byte} (hi : i.form = .jrIf k d) :
    encode i = [0b001#3 ++ k.code ++ 0b000#3, d] := by
  have hform : encode i = [opcode 0 (condHigh k) 0, d] := congrArg Form.encode hi
  rw [hform]
  cases k <;> rfl

theorem exec_of_form_jrIf {i : Instr} {k : Cond} {d : Byte} (hi : i.form = .jrIf k d) (s : State) :
    exec i s = .next (s.jumpTo (if s.cond k then s.pc + 2 + sext16 d else s.pc + 2)) :=
  calc exec i s
      = execForm (.jrIf k d) s := by rw [exec_eq_execForm, hi]
    _ = jumpRelIf k d s := rfl
    _ = _ := jumpRelIf_eq k d s

/-- Settles O50: both jumps are a transfer to the address their rule gives, and a transfer has
the empty frame. -/
theorem relativeJumps : Obligations.RelativeJumps :=
  ⟨fun _ => ⟨rfl, rfl, rfl, rfl⟩,
    fun d => ⟨rfl, fun s => ⟨_, exec_jr_d d s, rfl, frame_jumpTo s _⟩⟩,
    fun _ _ _ hi => ⟨encode_of_form_jrIf hi,
      fun s => ⟨_, exec_of_form_jrIf hi s, rfl, frame_jumpTo s _⟩⟩⟩

end Sys2Proof.Machine

namespace Sys2Proof

/-! ### The length of an instruction (R62, R98) -/

/-- The sum of R98. -/
theorem slotLen_eq_sum (s : Slot) :
    slotLen s = 1 + (if s.table = .cb then 1 else 0) + (if (lookup s).hasDisp then 1 else 0) +
      (lookup s).immSize := by
  simp only [slotLen, Descriptor.len]
  omega

/-- The slot's own bytes, and the operand bytes its operation reads. -/
theorem slotLen_eq_reads (s : Slot) :
    slotLen s = s.prefixBytes.length + (if (lookup s).operation.readsDisp then 1 else 0) +
      (lookup s).operation.readsImm := by
  have hc := lookup_consistent s
  simp only [Descriptor.consistent, Bool.and_eq_true, beq_iff_eq] at hc
  obtain ⟨hdisp, himm⟩ := hc
  have hprefix : s.prefixBytes.length = 1 + (if s.table = .cb then 1 else 0) := by
    obtain ⟨table, byte⟩ := s
    cases table <;> rfl
  rw [slotLen_eq_sum, hprefix, hdisp, himm]

/-- What a slot's operation makes of any operands is encoded in the slot's length; the escape slot has
no operation (R245). -/
theorem length_encode_instr {s : Slot} (hs : s ≠ ⟨.base, 0xCB⟩) (d : Byte) (imm : Word) :
    (encode ((lookup s).operation.instr s.byte d imm)).length = slotLen s := by
  have he := slot_encodes s
  rw [slotLen_eq_reads]
  unfold Slot.Encodes at he
  generalize (lookup s).operation = operation at he ⊢
  cases operation with
  | plain i => rw [Operation.instr, he.2]; rfl
  | imm8 make => rw [Operation.instr, (he _).2, List.length_append]; rfl
  | disp make => rw [Operation.instr, (he _).2, List.length_append]; rfl
  | imm16 make => rw [Operation.instr, (he _).2, List.length_append]; rfl
  | undefined => rw [Slot.prefixBytes, he.2]; rfl
  | escape => exact absurd he hs

/-- What the operand fetch accepts is made by its slot's operation (R93 to R96). -/
theorem decodeOperands_ok {slot slot' : Slot} {start : Nat} {bs rest : List Byte} {i : Instr}
    (h : decodeOperands slot start bs = .ok slot' i rest) :
    slot' = slot ∧ ∃ d imm, i = (lookup slot).operation.instr slot.byte d imm := by
  unfold decodeOperands at h
  dsimp only at h
  repeat' split at h
  all_goals cases h
  all_goals exact ⟨rfl, _, _, rfl⟩

/-- What the decoder accepts is made by its slot's operation, and is never the escape slot (R92, R245). -/
theorem decode_ok {bs rest : List Byte} {slot : Slot} {i : Instr} (h : decode bs = .ok slot i rest) :
    slot ≠ ⟨.base, 0xCB⟩ ∧ ∃ d imm, i = (lookup slot).operation.instr slot.byte d imm := by
  unfold decode at h
  split at h
  case h_1 => cases h
  case h_2 b0 bs =>
    split at h
    · split at h
      · cases h
      · obtain ⟨rfl, hi⟩ := decodeOperands_ok h
        exact ⟨by simp, hi⟩
    · rename_i hb
      obtain ⟨rfl, hi⟩ := decodeOperands_ok h
      exact ⟨fun hslot => hb (congrArg Slot.byte hslot), hi⟩

theorem length_encode_of_decode {bs rest : List Byte} {slot : Slot} {i : Instr}
    (h : decode bs = .ok slot i rest) : (encode i).length = slotLen slot := by
  obtain ⟨hslot, d, imm, rfl⟩ := decode_ok h
  exact length_encode_instr hslot d imm

end Sys2Proof

namespace Sys2Proof.Machine

/-! ### What running an instruction comes to (R98, R99, R254) -/

/-- The instruction completed: it is counted (R99), it raises no fault, and unless it is a taken transfer
`pc` advances by its length (R98). -/
structure Completes (g : Form) (s t : State) : Prop where
  tick : t.tickCount = s.tickCount + 1
  fault : t.fault = s.fault
  sequential : g.transfers s = false → t.pc = s.pc + BitVec.ofNat 16 g.encode.length

/-- Every form of the opcode map completes, in every state: a transfer jumps, a conditional one advances
where its condition is false, and every other form advances by its length. -/
theorem execForm_completes {g : Form} (hu : ∀ op, g ≠ .undefined op) (he : g ≠ .escape) (s : State) :
    ∃ t, execForm g s = .next t ∧ Completes g s t := by
  cases g with
  | undefined op => exact absurd rfl (hu op)
  | escape => exact absurd rfl he
  | alu op v =>
    refine ⟨_, rfl, by simp, by simp, fun _ => ?_⟩
    cases v <;> simp [Form.encode, aluLen]
  | jr | jp | jpHL | call | ret | reti | rst => exact ⟨_, rfl, rfl, rfl, nofun⟩
  | jrIf k d => exact ⟨_, jumpRelIf_eq k d s, rfl, rfl, fun h => if_neg (Bool.eq_false_iff.mp h)⟩
  | jpIf k nn => exact ⟨_, jumpAbsIf_eq k nn s, rfl, rfl, fun h => if_neg (Bool.eq_false_iff.mp h)⟩
  | callIf k nn =>
    refine ⟨_, callAbsIf_eq k nn s, by split <;> rfl, by split <;> rfl, fun h => ?_⟩
    rw [if_neg (show ¬ s.cond k = true from Bool.eq_false_iff.mp h)]
    rfl
  | retIf k =>
    refine ⟨_, returnIf_eq k s, by split <;> rfl, by split <;> rfl, fun h => ?_⟩
    rw [if_neg (show ¬ s.cond k = true from Bool.eq_false_iff.mp h)]
    rfl
  | pop q => exact ⟨(s.drop16.setRP2 q s.top16).advance 1, rfl, by simp, by simp, by simp [Form.encode]⟩
  | _ => exact ⟨_, rfl, by simp, by simp, fun _ => by simp [Form.encode, wordBytes]⟩

theorem exec_completes {i : Instr} (h : i.isOperation = true) (s : State) :
    ∃ t, exec i s = .next t ∧ Completes i.form s t := by
  rw [exec_eq_execForm]
  refine execForm_completes (fun op hform => ?_) (fun hform => ?_) s
  · simp [Instr.isOperation, hform] at h
  · simp [Instr.isOperation, hform] at h

/-- Settles O20: the length is the sum of the slot's descriptor, what the decoder accepts is made by its
slot's operation, and what is no taken transfer completes in sequence. -/
theorem sequentialAdvance : Obligations.SequentialAdvance := by
  refine ⟨slotLen_eq_sum, fun _ _ _ _ hd => length_encode_of_decode hd, fun i s hop hseq => ?_⟩
  obtain ⟨t, hexec, hcompletes⟩ := exec_completes hop s
  exact ⟨t, hexec, hcompletes.sequential hseq⟩

/-- The two ways a meaning ends: completed and counted with no fault raised (R99), or with nothing changed
but the fault latch (R254). -/
def CountsOrRaises (s t : State) : Prop :=
  (t.fault = s.fault ∧ t.tickCount = s.tickCount + 1) ∨ ∃ r, t = s.raise r

/-- The escape slot raises the fault of the byte it lacks, or completes as the instruction of the true
opcode (R92, R245). -/
theorem escapeSlot_counts_or_raises (s : State) :
    ∃ t, escapeSlot s = .next t ∧ CountsOrRaises s t := by
  unfold escapeSlot
  split
  · exact ⟨_, rfl, .inr ⟨_, rfl⟩⟩
  · rename_i op _
    obtain ⟨g, hrun, hg⟩ := runCB_cases op s
    have hu : ∀ op, g ≠ .undefined op := by rintro op rfl; simp at hg
    have he : g ≠ .escape := by rintro rfl; simp at hg
    obtain ⟨t, hexec, hcompletes⟩ := execForm_completes hu he s
    exact ⟨t, hrun.trans hexec, .inl ⟨hcompletes.fault, hcompletes.tick⟩⟩

/-- Every meaning answers a next state, the undefined bytes' and the escape slot's included. -/
theorem exec_counts_or_raises (i : Instr) (s : State) :
    ∃ t, exec i s = .next t ∧ CountsOrRaises s t := by
  rw [exec_eq_execForm]
  by_cases hu : ∃ op, i.form = .undefined op
  · obtain ⟨op, hform⟩ := hu
    rw [hform]
    exact ⟨_, rfl, .inr ⟨_, rfl⟩⟩
  by_cases he : i.form = .escape
  · rw [he]
    exact escapeSlot_counts_or_raises s
  obtain ⟨t, hexec, hcompletes⟩ := execForm_completes (not_exists.mp hu) he s
  exact ⟨t, hexec, .inl ⟨hcompletes.fault, hcompletes.tick⟩⟩

/-! ### What a step comes to, as the host sees it (R250, R256) -/

theorem attempt_nullOperation {s : State} {slot : Slot} {i : Instr} {rest : List Byte}
    (hrun : s.Running) (hd : decode s.window = .ok slot i rest)
    (hn : s.config.isNull slot = true) : attempt s = .nullOperation slot := by
  simp [attempt, hrun.1, hrun.2, hd, hn]

theorem step_nullOperation {s : State} {slot : Slot} (ha : attempt s = .nullOperation slot) :
    step s = .refused (.unimplemented slot) := by
  rw [step, runLoop, ha]

theorem runInstruction_nullOperation {s : State} {slot : Slot} (ha : attempt s = .nullOperation slot) :
    runInstruction s = (.unimplemented slot, s.skipNull slot) := by
  rw [runInstruction, ha]

/-- A step beside its status and state as the host sees them: it did nothing (a latch was set), or it
raised a fault, or met a null operation, or ran an instruction to its end and counted it. -/
theorem step_runInstruction_cases (s : State) :
    (∃ r, s.fault = some r ∧ step s = .fault r ∧ runInstruction s = (.fault r, s)) ∨
    (s.fault = none ∧ s.halted ≠ .running ∧ step s = .next s ∧
      runInstruction s = (idleStatus s, s)) ∨
    (s.Running ∧
      ((∃ r, step s = .next (s.raise r) ∧ runInstruction s = (.fault r, s.raise r)) ∨
       (∃ slot, step s = .refused (.unimplemented slot) ∧
        runInstruction s = (.unimplemented slot, s.skipNull slot)) ∨
       ∃ t, step s = .next t ∧ t.fault = none ∧ t.tickCount = s.tickCount + 1 ∧
        runInstruction s = (.ok, t))) := by
  obtain ⟨r, hf, ha⟩ | ⟨hf, hh, ha⟩ | ⟨hf, hh, ⟨k, _, ha⟩ | ⟨slot, _, _, _, _, ha⟩ |
    ⟨slot, i, _, _, _, ha⟩⟩ := attempt_cases s
  · exact .inl ⟨r, hf, by rw [step, runLoop, ha], by rw [runInstruction, ha]⟩
  · exact .inr (.inl ⟨hf, hh, by rw [step, runLoop, ha], by rw [runInstruction, ha]⟩)
  · exact .inr (.inr ⟨⟨hf, hh⟩, .inl ⟨_, by rw [step, runLoop, ha], by rw [runInstruction, ha]⟩⟩)
  · exact .inr (.inr ⟨⟨hf, hh⟩,
      .inr (.inl ⟨slot, step_nullOperation ha, runInstruction_nullOperation ha⟩)⟩)
  · refine .inr (.inr ⟨⟨hf, hh⟩, ?_⟩)
    obtain ⟨t, hexec, hcounts⟩ := exec_counts_or_raises i s
    have hstep : step s = .next t := by rw [step, runLoop, ha]; exact hexec
    have hhost : runInstruction s = (latchStatus t, t) := by rw [runInstruction, ha]; simp only [hexec]
    obtain ⟨hfault, htick⟩ | ⟨r, rfl⟩ := hcounts
    · have hnone : t.fault = none := hfault.trans hf
      exact .inr (.inr ⟨t, hstep, hnone, htick, by rw [hhost, latchStatus, hnone]⟩)
    · exact .inl ⟨r, hstep, hhost⟩

/-- The status of an idle machine is `Halted` or `Stopped`. -/
theorem idleStatus_of_not_running {s : State} (hh : s.halted ≠ .running) :
    idleStatus s = .halted ∨ idleStatus s = .stopped := by
  unfold idleStatus
  split
  · contradiction
  · exact .inl rfl
  · exact .inr rfl

/-- Settles O19, by the cases of a step as the host sees it. -/
theorem tickCountCountsCompletedSteps : Obligations.TickCountCountsCompletedSteps := by
  intro s t st h
  obtain ⟨r, _, _, hr⟩ | ⟨_, hh, _, hr⟩ | ⟨hrun, ⟨r, _, hr⟩ | ⟨slot, _, hr⟩ |
    ⟨u, _, _, htick, hr⟩⟩ := step_runInstruction_cases s
  all_goals
    rw [hr, Prod.mk.injEq] at h
    obtain ⟨rfl, rfl⟩ := h
  case inl => simp
  case inr.inl => obtain hidle | hidle := idleStatus_of_not_running hh <;> simp [hidle]
  case inr.inr.inl => simp
  case inr.inr.inr.inl => simp [State.skipNull]
  case inr.inr.inr.inr => simpa [htick] using hrun

/-! ### Null operations (R97) -/

/-- `IMPL_ALL` has no null slot. -/
theorem isNull_of_implAll {cfg : Config} (h : cfg.nullSlots = implAll) (slot : Slot) :
    cfg.isNull slot = false := by
  simp [Config.isNull, h, implAll]

/-- Settles O18: the loop refuses the null operation and the host skips it, by the length that the decoded
instruction shares with its slot. -/
theorem nullOperationsAreSkippedAndRefused : Obligations.NullOperationsAreSkippedAndRefused := by
  refine ⟨fun s slot i rest hrun hd hn => ?_, fun _ slot h => isNull_of_implAll h slot⟩
  have ha : attempt s = .nullOperation slot := attempt_nullOperation hrun hd hn
  refine ⟨step_nullOperation ha, s.skipNull slot, runInstruction_nullOperation ha, hrun, ?_⟩
  rw [length_encode_of_decode hd]
  rfl

/-! ### `NOP` (R102) -/

/-- Settles O29: `NOP` is a transfer to the next address, and a transfer has the empty frame. -/
theorem nopEffect : Obligations.NopEffect :=
  ⟨rfl, fun s => ⟨s.jumpTo (s.pc + 1), rfl, rfl, frame_jumpTo s _⟩⟩

end Sys2Proof.Machine

namespace Sys2Proof.Machine

/-! ### What an update adds to a frame

A state `t` on the way from `s` is inside the frame `w` when its completion `t.jumpTo p` is. One rule for each
update of the state: it stays inside every frame that lists what it writes. -/

@[simp] theorem flag_jumpTo (s : State) (p : Word) (g : Flag) : (s.jumpTo p).flag g = s.flag g := by
  cases g <;> rfl

@[simp] theorem flag_setReg (s : State) (r : Reg8) (v : Byte) (g : Flag) :
    (s.setReg r v).flag g = s.flag g := by
  cases g <;> simp [State.flag]

@[simp] theorem hl_advance (s : State) (len : Nat) : (s.advance len).hl = s.hl := rfl

section

variable {w : Touches} {s t : State} {p : Word}

/-- Completing with nothing written is inside every frame. -/
theorem Frame.start (w : Touches) (s : State) (p : Word) : Frame w s (s.jumpTo p) where
  regs r _ := reg_jumpTo s r p
  flags g _ := flag_jumpTo s p g
  low _ := rfl
  mem a _ := readMem_jumpTo s p a
  sp _ := rfl
  ime _ := rfl
  halted _ := rfl
  fault := rfl
  image := rfl
  config := rfl
  tick := rfl

theorem Frame.setReg (h : Frame w s (t.jumpTo p)) {r : Reg8} (hr : r ∈ w.regs) (v : Byte) :
    Frame w s ((t.setReg r v).jumpTo p) where
  regs r' hr' := by
    have hne : r' ≠ r := fun heq => hr' (heq ▸ hr)
    simpa [hne] using h.regs r' hr'
  flags g hg := by simpa using h.flags g hg
  low hw := by simpa using h.low hw
  mem a ha := by simpa using h.mem a ha
  sp hw := by simpa using h.sp hw
  ime hw := by simpa using h.ime hw
  halted hw := by simpa using h.halted hw
  fault := by simpa using h.fault
  image := by simpa using h.image
  config := by simpa using h.config
  tick := by simpa using h.tick

theorem Frame.writeMem (h : Frame w s (t.jumpTo p)) {a : Word} (ha : a ∈ w.stores) (v : Byte) :
    Frame w s ((t.writeMem a v).jumpTo p) :=
  { h with
    mem := fun a' ha' => by
      have hne : a' ≠ a := fun heq => ha' (heq ▸ ha)
      simpa [hne] using h.mem a' ha' }

theorem Frame.setSP (h : Frame w s (t.jumpTo p)) (hw : w.sp = true) (v : Word) :
    Frame w s ((t.setRP .sp v).jumpTo p) :=
  { h with sp := fun hf => absurd hw (by simp [hf]) }

/-- A pair is written half by half (R12). -/
theorem Frame.setHL (h : Frame w s (t.jumpTo p)) (hh : .h ∈ w.regs) (hl : .l ∈ w.regs) (v : Word) :
    Frame w s ((t.setHL v).jumpTo p) :=
  (h.setReg hh (hiByte v)).setReg hl (loByte v)

theorem Frame.setRP (h : Frame w s (t.jumpTo p)) {q : RP} (hq : ∀ r ∈ q.regs, r ∈ w.regs)
    (hsp : q = .sp → w.sp = true) (v : Word) : Frame w s ((t.setRP q v).jumpTo p) := by
  cases q with
  | bc => exact (h.setReg (hq .b (by decide)) (hiByte v)).setReg (hq .c (by decide)) (loByte v)
  | de => exact (h.setReg (hq .d (by decide)) (hiByte v)).setReg (hq .e (by decide)) (loByte v)
  | hl => exact h.setHL (hq .h (by decide)) (hq .l (by decide)) v
  | sp => exact h.setSP (hsp rfl) v

/-- A 16-bit store is two byte stores (R47). -/
theorem Frame.writeMem16 (h : Frame w s (t.jumpTo p)) {a : Word} (ha : a ∈ w.stores)
    (ha' : a + 1 ∈ w.stores) (v : Word) : Frame w s ((t.writeMem16 a v).jumpTo p) :=
  (h.writeMem ha (loByte v)).writeMem ha' (hiByte v)

end

/-- A pair reads back as written (R67). -/
@[simp] theorem rp_setRP (s : State) (p : RP) (v : Word) : (s.setRP p v).rp p = v := by
  cases p with
  | bc => exact bc_setBC s v
  | de => exact de_setDE s v
  | hl => exact hl_setHL s v
  | sp => rfl

@[simp] theorem rp_advance (s : State) (p : RP) (len : Nat) : (s.advance len).rp p = s.rp p := by
  cases p <;> rfl

/-! ### An instruction through its form -/

section

variable {i : Instr} {g : Form}

theorem encode_of_form (hi : i.form = g) : encode i = g.encode := congrArg Form.encode hi

theorem exec_of_form (hi : i.form = g) (s : State) : exec i s = execForm g s := by
  rw [exec_eq_execForm, hi]

end

/-! ### Loads and stores (R110 to R133)

Every load or store is one write to a register, a pair or memory, or such a write and a step of `HL`, and then
an advance. Each lemma says what an instruction with that meaning leaves. -/

section

variable {i : Instr} {s : State} {len : Nat}

theorem exec_writes_reg {r : Reg8} {v : Byte} (h : exec i s = .next ((s.setReg r v).advance len)) :
    ∃ t, exec i s = .next t ∧ t.reg r = v ∧ t.pc = s.pc + BitVec.ofNat 16 len ∧
      Frame { regs := [r] } s t :=
  ⟨_, h, by simp, by simp, (Frame.start _ s _).setReg (by simp) v⟩

theorem exec_writes_byte {a : Word} {v : Byte} (h : exec i s = .next ((s.writeMem a v).advance len)) :
    ∃ t, exec i s = .next t ∧ t.readMem a = v ∧ t.pc = s.pc + BitVec.ofNat 16 len ∧
      Frame { stores := [a] } s t :=
  ⟨_, h, by simp, by simp, (Frame.start _ s _).writeMem (by simp) v⟩

theorem exec_writes_pair {p : RP} {v : Word} (h : exec i s = .next ((s.setRP p v).advance len)) :
    ∃ t, exec i s = .next t ∧ t.rp p = v ∧ t.pc = s.pc + BitVec.ofNat 16 len ∧
      Frame { regs := p.regs, sp := p == .sp } s t :=
  ⟨_, h, by simp, by simp, (Frame.start _ s _).setRP (fun _ hr => hr) (by simp) v⟩

/-- The two bytes of a 16-bit store lie at different addresses, also where the second wraps to 0 (R129). -/
theorem exec_writes_word {a v : Word} (h : exec i s = .next ((s.writeMem16 a v).advance len)) :
    ∃ t, exec i s = .next t ∧ t.readMem a = loByte v ∧ t.readMem (a + 1) = hiByte v ∧
      t.pc = s.pc + BitVec.ofNat 16 len ∧ Frame { stores := [a, a + 1] } s t :=
  ⟨_, h, by simp, by simp, by simp, (Frame.start _ s _).writeMem16 (by simp) (by simp) v⟩

/-- The store uses the old `HL`; only then `HL` steps (R130, R132). -/
theorem exec_stores_and_steps {k : HLStep} (h : exec i s = storeAStep k s) :
    ∃ t, exec i s = .next t ∧ t.readMem s.hl = s.a ∧ t.hl = stepHL k s.hl ∧ t.pc = s.pc + 1 ∧
      Frame { regs := [.h, .l], stores := [s.hl] } s t :=
  ⟨_, h, by simp, by simp, by simp,
    ((Frame.start _ s _).writeMem (by simp) s.a).setHL (by simp) (by simp) _⟩

/-- The load uses the old `HL`; only then `HL` steps (R131, R133). -/
theorem exec_loads_and_steps {k : HLStep} (h : exec i s = loadAStep k s) :
    ∃ t, exec i s = .next t ∧ t.a = s.readMem s.hl ∧ t.hl = stepHL k s.hl ∧ t.pc = s.pc + 1 ∧
      Frame { regs := [.a, .h, .l] } s t :=
  ⟨_, h, rfl, by simp, by simp,
    ((Frame.start _ s _).setReg (by simp) (s.readMem s.hl)).setHL (by simp) (by simp) _⟩

end

/-- Settles O30: the form's meaning is one register write. -/
theorem loadRegisterFromRegister : Obligations.LoadRegisterFromRegister := fun _ _ _ hi =>
  ⟨encode_of_form hi, fun s => exec_writes_reg (exec_of_form hi s)⟩

/-- Settles O31: the load is one register write, the store one byte write, both at the old `HL`. -/
theorem loadAndStoreThroughHL : Obligations.LoadAndStoreThroughHL :=
  ⟨fun _ _ hi => ⟨encode_of_form hi, fun s => exec_writes_reg (exec_of_form hi s)⟩,
    fun _ _ hi => ⟨encode_of_form hi, fun s => exec_writes_byte (exec_of_form hi s)⟩⟩

/-- Settles O32: one register write, or one byte write at `HL`. -/
theorem loadByteImmediate : Obligations.LoadByteImmediate :=
  ⟨fun _ _ _ hi => ⟨encode_of_form hi, fun s => exec_writes_reg (exec_of_form hi s)⟩,
    fun _ => ⟨rfl, fun _ => exec_writes_byte rfl⟩⟩

/-- The fields q = 0 and z = 1 of `LD rp,nn` are the low four bits of its opcode (R72). -/
theorem encode_of_form_ldPairImm {i : Instr} {p : RP} {nn : Word} (hi : i.form = .ldPairImm p nn) :
    encode i = [0b00#2 ++ p.code ++ 0b0001#4, loByte nn, hiByte nn] := by
  rw [encode_of_form hi]
  cases p <;> rfl

/-- Settles O33: the form's meaning is one pair write. -/
theorem loadPairImmediate : Obligations.LoadPairImmediate := fun _ _ _ hi =>
  ⟨encode_of_form_ldPairImm hi, fun s => exec_writes_pair (exec_of_form hi s)⟩

/-- Settles O34: each store is one byte write, each load one write to `A`. -/
theorem accumulatorThroughPairOrAddress : Obligations.AccumulatorThroughPairOrAddress :=
  ⟨⟨rfl, fun _ => exec_writes_byte rfl⟩, ⟨rfl, fun _ => exec_writes_byte rfl⟩,
    ⟨rfl, fun _ => exec_writes_reg (r := .a) rfl⟩, ⟨rfl, fun _ => exec_writes_reg (r := .a) rfl⟩,
    fun _ => ⟨rfl, fun _ => exec_writes_byte rfl⟩,
    fun _ => ⟨rfl, fun _ => exec_writes_reg (r := .a) rfl⟩⟩

/-- Settles O35: each store is one byte write, each load one write to `A`, at an address of `highPage`. -/
theorem accumulatorThroughHighPage : Obligations.AccumulatorThroughHighPage :=
  ⟨fun _ => ⟨rfl, fun _ => exec_writes_byte rfl⟩,
    fun _ => ⟨rfl, fun _ => exec_writes_reg (r := .a) rfl⟩,
    ⟨rfl, fun _ => exec_writes_byte rfl⟩, rfl, fun _ => exec_writes_reg (r := .a) rfl⟩

/-- Settles O36: one write to `sp`, and one 16-bit store. -/
theorem stackPointerLoads : Obligations.StackPointerLoads :=
  ⟨⟨rfl, fun _ => exec_writes_pair (p := .sp) rfl⟩, fun _ => ⟨rfl, fun _ => exec_writes_word rfl⟩⟩

/-- Settles O37: a transfer at the old `HL` and a step, up and down. -/
theorem steppingLoadsAndStores : Obligations.SteppingLoadsAndStores :=
  ⟨⟨rfl, fun _ => exec_stores_and_steps (k := .inc) rfl⟩,
    ⟨rfl, fun _ => exec_loads_and_steps (k := .inc) rfl⟩,
    ⟨rfl, fun _ => exec_stores_and_steps (k := .dec) rfl⟩,
    rfl, fun _ => exec_loads_and_steps (k := .dec) rfl⟩

end Sys2Proof.Machine

namespace Sys2Proof.Machine

/-! ### Writing flags, and writing an 8-bit operand (R15, R66) -/

/-- What a flag write does to one flag: `none` leaves it (R15). -/
def FlagWrite.get (k : FlagWrite) : Flag → Option Bool
  | .z => k.z
  | .n => k.n
  | .h => k.h
  | .c => k.c

section

variable (s : State)

@[simp] theorem flag_withFlags (k : FlagWrite) (g : Flag) :
    (s.withFlags k).flag g = (k.get g).getD (s.flag g) := by
  cases g <;> simp [State.flag, FlagWrite.get]

@[simp] theorem flag_advance (len : Nat) (g : Flag) : (s.advance len).flag g = s.flag g :=
  flag_jumpTo s _ g

@[simp] theorem flag_setLoc (o : Loc8) (v : Byte) (g : Flag) : (s.setLoc o v).flag g = s.flag g := by
  cases g <;> simp [State.flag]

@[simp] theorem loc_withFlags (k : FlagWrite) (o : Loc8) : (s.withFlags k).loc o = s.loc o := by
  cases o with
  | reg r => exact reg_withFlags s r k
  | atHL => rfl

@[simp] theorem loc_advance (len : Nat) (o : Loc8) : (s.advance len).loc o = s.loc o := by
  cases o with
  | reg r => exact reg_advance s r len
  | atHL => rfl

/-- An operand reads back as written; a store through `HL` leaves `HL`. -/
@[simp] theorem loc_setLoc (o : Loc8) (v : Byte) : (s.setLoc o v).loc o = v := by
  cases o with
  | reg r => simp [State.loc, State.setLoc]
  | atHL =>
    have hread : (s.writeMem s.hl v).readMem s.hl = v := by simp
    exact hread

end

section

variable {w : Touches} {s t : State} {p : Word}

theorem Frame.withFlags (h : Frame w s (t.jumpTo p)) {k : FlagWrite}
    (hk : ∀ g, g ∉ w.flags → k.get g = none) : Frame w s ((t.withFlags k).jumpTo p) :=
  { h with
    regs := fun r hr => by simpa using h.regs r hr
    flags := fun g hg => by simpa [hk g hg] using h.flags g hg
    low := fun hw => by simpa using h.low hw }

/-- The operand written is a register, or the byte at `HL` of the state it is written in. -/
theorem Frame.setLoc (h : Frame w s (t.jumpTo p)) {o : Loc8} (hr : ∀ r ∈ o.regs, r ∈ w.regs)
    (hs : ∀ a ∈ o.stores t, a ∈ w.stores) (v : Byte) : Frame w s ((t.setLoc o v).jumpTo p) := by
  cases o with
  | reg r => exact h.setReg (hr r (by simp [Loc8.regs])) v
  | atHL => exact h.writeMem (hs t.hl (by simp [Loc8.stores])) v

end

/-! ### Increments and decrements (R140 to R145) -/

/-- An instruction that writes one 8-bit operand and some flags, and advances. -/
theorem exec_writes_loc_and_flags {i : Instr} {s : State} {len : Nat} {o : Loc8} {v : Byte}
    {k : FlagWrite} {gs : List Flag} (hk : ∀ g, g ∉ gs → k.get g = none)
    (h : exec i s = .next (((s.setLoc o v).withFlags k).advance len)) :
    ∃ t, exec i s = .next t ∧ t.loc o = v ∧ (∀ g, t.flag g = (k.get g).getD (s.flag g)) ∧
      t.pc = s.pc + BitVec.ofNat 16 len ∧
      Frame { regs := o.regs, stores := o.stores s, flags := gs } s t :=
  ⟨_, h, by simp, by simp, by simp,
    ((Frame.start _ s _).setLoc (fun _ hr => hr) (fun _ ha => ha) v).withFlags hk⟩

theorem FlagWrite.get_eq_none_of_leaves_c {k : FlagWrite} (hc : k.c = none) :
    ∀ g, g ∉ [Flag.z, .n, .h] → k.get g = none := by
  intro g hg
  cases g with
  | c => exact hc
  | z | n | h => simp at hg

/-- Z, N and H are written, and C is not (R140 to R143). -/
theorem exec_writes_loc_leaves_carry {i : Instr} {s : State} {len : Nat} {o : Loc8} {v : Byte}
    {z n hc : Bool} (h : exec i s = .next (((s.setLoc o v).withFlags
      { z := some z, n := some n, h := some hc }).advance len)) :
    ∃ t, exec i s = .next t ∧ t.loc o = v ∧ t.flag .z = z ∧ t.flag .n = n ∧ t.flag .h = hc ∧
      t.pc = s.pc + BitVec.ofNat 16 len ∧
      Frame { regs := o.regs, stores := o.stores s, flags := [.z, .n, .h] } s t := by
  obtain ⟨t, hexec, hloc, hflag, hpc, hframe⟩ :=
    exec_writes_loc_and_flags (FlagWrite.get_eq_none_of_leaves_c rfl) h
  exact ⟨t, hexec, hloc, hflag .z, hflag .n, hflag .h, hpc, hframe⟩

/-- Settles O38: the form's meaning is one operand write and a flag write that leaves C. -/
theorem incrementAndDecrementByte : Obligations.IncrementAndDecrementByte :=
  ⟨fun _ _ hi => ⟨encode_of_form hi, fun s => exec_writes_loc_leaves_carry (exec_of_form hi s)⟩,
    fun _ _ hi => ⟨encode_of_form hi, fun s => exec_writes_loc_leaves_carry (exec_of_form hi s)⟩⟩

/-- The fields q and z are the low four bits of an opcode (R63). -/
theorem opcodePQ_eq_append (x p : BitVec 2) (q : BitVec 1) (z : BitVec 3) :
    opcodePQ x p q z = x ++ p ++ (q ++ z) :=
  BitVec.append_assoc

/-- The q and z of `INC rp` (R72). -/
theorem encode_of_form_inc16 {i : Instr} {p : RP} (hi : i.form = .inc16 p) :
    encode i = [0b00#2 ++ p.code ++ 0b0011#4] :=
  (encode_of_form hi).trans (congrArg ([·]) (opcodePQ_eq_append 0 p.code 0 3))

/-- The q and z of `DEC rp` (R72). -/
theorem encode_of_form_dec16 {i : Instr} {p : RP} (hi : i.form = .dec16 p) :
    encode i = [0b00#2 ++ p.code ++ 0b1011#4] :=
  (encode_of_form hi).trans (congrArg ([·]) (opcodePQ_eq_append 0 p.code 1 3))

/-- Settles O39: the form's meaning is one pair write. -/
theorem stepPair : Obligations.StepPair :=
  ⟨fun _ _ hi => ⟨encode_of_form_inc16 hi, fun s => exec_writes_pair (exec_of_form hi s)⟩,
    fun _ _ hi => ⟨encode_of_form_dec16 hi, fun s => exec_writes_pair (exec_of_form hi s)⟩⟩

end Sys2Proof.Machine

namespace Sys2Proof.Machine

/-! ### 8-bit arithmetic and logic (R150 to R164)

What an instruction answers is a write of `A`, of some flags, or of both, and an advance. -/

/-- The flags a flag write writes. -/
def FlagWrite.written (k : FlagWrite) : List Flag := allFlags.filter fun g => (k.get g).isSome

theorem FlagWrite.get_eq_none_of_not_written {k : FlagWrite} {g : Flag} (hg : g ∉ k.written) :
    k.get g = none := by
  have hmem : g ∈ allFlags := by cases g <;> decide
  simpa [FlagWrite.written, hmem] using hg

section

variable {i : Instr} {s : State} {len : Nat} {k : FlagWrite}

theorem exec_writes_flags (h : exec i s = .next ((s.withFlags k).advance len)) :
    ∃ t, exec i s = .next t ∧ (∀ g, t.flag g = (k.get g).getD (s.flag g)) ∧
      t.pc = s.pc + BitVec.ofNat 16 len ∧ Frame { flags := k.written } s t :=
  ⟨_, h, by simp, by simp,
    (Frame.start _ s _).withFlags fun _ => FlagWrite.get_eq_none_of_not_written⟩

theorem exec_writes_a_and_flags {v : Byte}
    (h : exec i s = .next (((s.setReg .a v).withFlags k).advance len)) :
    ∃ t, exec i s = .next t ∧ t.a = v ∧ (∀ g, t.flag g = (k.get g).getD (s.flag g)) ∧
      t.pc = s.pc + BitVec.ofNat 16 len ∧ Frame { regs := [.a], flags := k.written } s t :=
  exec_writes_loc_and_flags (o := .reg .a) (fun _ => FlagWrite.get_eq_none_of_not_written) h

end

/-! #### The operations `alu[y]` (R150 to R160) -/

section

variable {i : Instr} {op : AluOp} {v : Src8}

theorem encode_of_form_alu_loc (hi : i.form = .alu op v) :
    ∀ o, v = .loc o → encode i = [0b10#2 ++ op.code ++ o.code] := by
  rintro o rfl
  exact encode_of_form hi

theorem encode_of_form_alu_imm (hi : i.form = .alu op v) :
    ∀ n, v = .imm n → encode i = [0b11#2 ++ op.code ++ 0b110#3, n] := by
  rintro n rfl
  exact encode_of_form hi

theorem aluLen_eq_length_encode (hi : i.form = .alu op v) : aluLen v = (encode i).length := by
  rw [encode_of_form hi]
  cases v <;> rfl

/-- `CP` puts back the `A` it read, so it writes no register (R160). -/
theorem frame_setReg_alu8 (op : AluOp) (s : State) (x : Byte) (cin : Bool) (p : Word) :
    Frame { regs := op.regs, flags := allFlags } s
      ((s.setReg .a (alu8 op s.a x cin).value).jumpTo p) := by
  cases op with
  | cp => exact Frame.start _ s p
  | add | adc | sub | sbc | and | xor | or => exact (Frame.start _ s p).setReg (by decide) _

/-- What every ALU instruction leaves, by the output of its operation. -/
theorem exec_of_form_alu (hi : i.form = .alu op v) {s : State} {out : Out8}
    (hout : alu8 op s.a (s.src v) s.carry = out) :
    ∃ t, exec i s = .next t ∧ t.a = out.value ∧ t.flag .z = out.z ∧ t.flag .n = out.n ∧
      t.flag .h = out.h ∧ t.flag .c = out.c ∧ t.pc = s.pc + BitVec.ofNat 16 (encode i).length ∧
      Frame { regs := op.regs, flags := allFlags } s t := by
  subst hout
  rw [← aluLen_eq_length_encode hi]
  have hframe := frame_setReg_alu8 op s (s.src v) s.carry (s.pc + BitVec.ofNat 16 (aluLen v))
  refine ⟨_, exec_of_form hi s, rfl, ?z, ?n, ?h, ?c, rfl, hframe.withFlags ?written⟩
  case written => exact fun _ hg => FlagWrite.get_eq_none_of_not_written hg
  all_goals exact (flag_advance _ _ _).trans (flag_withFlags _ _ _)

/-- The sum with a carry in, which is 0 for `ADD` (R154, R155). -/
theorem exec_of_form_alu_add8 (hi : i.form = .alu op v) {s : State} {cin : Bool}
    (hop : alu8 op s.a (s.src v) s.carry = add8 s.a (s.src v) cin) :
    ∃ t, exec i s = .next t ∧
      t.a.toNat = (s.a.toNat + (s.src v).toNat + carryNat cin) % 256 ∧
      t.flag .z = decide ((s.a.toNat + (s.src v).toNat + carryNat cin) % 256 = 0) ∧
      t.flag .n = false ∧
      t.flag .h = decide (s.a.toNat % 16 + (s.src v).toNat % 16 + carryNat cin > 0xF) ∧
      t.flag .c = decide (s.a.toNat + (s.src v).toNat + carryNat cin > 0xFF) ∧
      t.pc = s.pc + BitVec.ofNat 16 (encode i).length ∧
      Frame { regs := op.regs, flags := allFlags } s t := by
  obtain ⟨t, hexec, ha, hz, hn, hh, hc, hpc, hframe⟩ := exec_of_form_alu hi hop
  exact ⟨t, hexec, ha ▸ add8_value _ _ _, hz, hn, hh, hc, hpc, hframe⟩

/-- The flags of the difference with a borrow in, which is 0 for `SUB` and `CP`, whatever the operation
writes to `A` (R156, R157, R160). -/
theorem exec_of_form_alu_sub8 (hi : i.form = .alu op v) {s : State} {res : Byte} {cin : Bool}
    (hop : alu8 op s.a (s.src v) s.carry = { sub8 s.a (s.src v) cin with value := res }) :
    ∃ t, exec i s = .next t ∧ t.a = res ∧ t.flag .z = (sub8 s.a (s.src v) cin).z ∧
      t.flag .n = true ∧
      t.flag .h = decide (s.a.toNat % 16 < (s.src v).toNat % 16 + carryNat cin) ∧
      t.flag .c = decide (s.a.toNat < (s.src v).toNat + carryNat cin) ∧
      t.pc = s.pc + BitVec.ofNat 16 (encode i).length ∧
      Frame { regs := op.regs, flags := allFlags } s t := by
  obtain ⟨t, hexec, ha, hz, hn, hh, hc, hpc, hframe⟩ := exec_of_form_alu hi hop
  obtain ⟨hhalf, hfull⟩ := sub8_borrows s.a (s.src v) cin
  exact ⟨t, hexec, ha, hz, hn, hh.trans hhalf, hc.trans hfull, hpc, hframe⟩

/-- Z follows the result, N and C are cleared, and H is what the operation says (R151, R158, R159). -/
theorem exec_of_form_alu_logic (hi : i.form = .alu op v) {s : State} {res : Byte} {hf : Bool}
    (hop : alu8 op s.a (s.src v) s.carry = ⟨res, res == 0, false, hf, false⟩) :
    ∃ t, exec i s = .next t ∧ t.a = res ∧ t.flag .z = decide (t.a = 0) ∧ t.flag .n = false ∧
      t.flag .h = hf ∧ t.flag .c = false ∧ t.pc = s.pc + BitVec.ofNat 16 (encode i).length ∧
      Frame { regs := op.regs, flags := allFlags } s t := by
  obtain ⟨t, hexec, ha, hz, hrest⟩ := exec_of_form_alu hi hop
  exact ⟨t, hexec, ha, ha ▸ hz, hrest⟩

end

/-- With no borrow in, the difference is that of the two bytes (R156). -/
theorem sub8_value_of_no_borrow (a v : Byte) :
    ((sub8 a v false).value.toNat : Int) = ((a.toNat : Int) - v.toNat) % 256 := by
  simpa [carryNat] using sub8_value a v false

/-- Settles O41: one sum, with carry in 0 for `ADD` and the carry flag for `ADC`. -/
theorem addAndAddWithCarry : Obligations.AddAndAddWithCarry := by
  refine ⟨fun i v hi => ⟨encode_of_form_alu_loc hi, encode_of_form_alu_imm hi, fun s => ?add⟩,
    fun i v hi => ⟨encode_of_form_alu_loc hi, encode_of_form_alu_imm hi, ?adc⟩⟩
  case add => exact exec_of_form_alu_add8 hi (cin := false) rfl
  case adc =>
    rintro s _ rfl
    exact exec_of_form_alu_add8 hi (cin := s.carry) rfl

/-- Settles O42: `SUB` and `CP` have the flags of the difference with no borrow in, `SBC` those with the
carry flag as borrow. -/
theorem subtractAndCompare : Obligations.SubtractAndCompare := by
  refine ⟨fun i v hi => ⟨encode_of_form_alu_loc hi, encode_of_form_alu_imm hi, fun s => ?sub⟩,
    fun i v hi => ⟨encode_of_form_alu_loc hi, encode_of_form_alu_imm hi, ?sbc⟩,
    fun i v hi => ⟨encode_of_form_alu_loc hi, encode_of_form_alu_imm hi, fun s => ?cp⟩⟩
  case sub =>
    obtain ⟨t, hexec, ha, hz, hrest⟩ := exec_of_form_alu_sub8 hi (s := s) (cin := false) rfl
    exact ⟨t, hexec, ha ▸ sub8_value_of_no_borrow _ _, hz.trans (sub8_zero _ _), hrest⟩
  case sbc =>
    rintro s _ rfl
    obtain ⟨t, hexec, ha, hrest⟩ := exec_of_form_alu_sub8 hi (s := s) (cin := s.carry) rfl
    exact ⟨t, hexec, ha ▸ sub8_value _ _ _, hrest⟩
  case cp =>
    obtain ⟨t, hexec, -, hz, hrest⟩ := exec_of_form_alu_sub8 hi (s := s) (cin := false) rfl
    exact ⟨t, hexec, hz.trans (sub8_zero _ _), hrest⟩

/-- Settles O43: three operations of one shape. -/
theorem bitwiseLogic : Obligations.BitwiseLogic :=
  ⟨fun _ _ hi => ⟨encode_of_form_alu_loc hi, encode_of_form_alu_imm hi,
      fun _ => exec_of_form_alu_logic hi rfl⟩,
    fun _ _ hi => ⟨encode_of_form_alu_loc hi, encode_of_form_alu_imm hi,
      fun _ => exec_of_form_alu_logic hi rfl⟩,
    fun _ _ hi => ⟨encode_of_form_alu_loc hi, encode_of_form_alu_imm hi,
      fun _ => exec_of_form_alu_logic hi rfl⟩⟩

/-! #### `CPL`, `SCF`, `CCF` (R162 to R164) -/

/-- Settles O45: one write to `A` and two flags, and two flag writes. -/
theorem complementAndCarryFlag : Obligations.ComplementAndCarryFlag := by
  refine ⟨⟨rfl, fun s => ?cpl⟩, ⟨rfl, fun s => ?scf⟩, rfl, fun s => ?ccf⟩
  case cpl =>
    obtain ⟨t, hexec, ha, hflag, hpc, hframe⟩ := exec_writes_a_and_flags (i := .cpl) (s := s) rfl
    exact ⟨t, hexec, ha, hflag .n, hflag .h, hpc, hframe⟩
  case scf =>
    obtain ⟨t, hexec, hflag, hpc, hframe⟩ := exec_writes_flags (i := .scf) (s := s) rfl
    exact ⟨t, hexec, hflag .n, hflag .h, hflag .c, hpc, hframe⟩
  case ccf =>
    obtain ⟨t, hexec, hflag, hpc, hframe⟩ := exec_writes_flags (i := .ccf) (s := s) rfl
    exact ⟨t, hexec, hflag .n, hflag .h, hflag .c, hpc, hframe⟩

/-! #### `DAA` (R161) -/

/-- The additive arm by its two tests, both on the old `A`. -/
theorem daaValue_add_cases (a : Byte) (h c : Bool) :
    let low := h = true ∨ a.toNat % 16 > 9
    let high := c = true ∨ a.toNat > 0x99
    (low → high → (daaValue a false h c).toNat = (a.toNat + 0x66) % 256) ∧
    (low → ¬ high → (daaValue a false h c).toNat = (a.toNat + 0x06) % 256) ∧
    (¬ low → high → (daaValue a false h c).toNat = (a.toNat + 0x60) % 256) ∧
    (¬ low → ¬ high → daaValue a false h c = a) := by
  intro low high
  have hsum := (daa_add a h c).1
  refine ⟨fun hl hh => ?_, fun hl hh => ?_, fun hl hh => ?_, fun hl hh => BitVec.eq_of_toNat_eq ?_⟩
  · rw [hsum, if_pos hl, if_pos hh]
  · rw [hsum, if_pos hl, if_neg hh]
  · rw [hsum, if_neg hl, if_pos hh]
  · rw [hsum, if_neg hl, if_neg hh]
    exact Nat.mod_eq_of_lt a.isLt

end Sys2Proof.Machine

namespace Sys2Proof

section

open Machine

/-- Settles O44: the value and the carry out of each arm, on the old `A` and the old flags. (In
`Sys2Proof.Machine` the name is the model's operation.) -/
theorem decimalAdjust : Obligations.DecimalAdjust := by
  refine ⟨rfl, fun s => ?_⟩
  obtain ⟨t, hexec, ha, hflag, hpc, hframe⟩ := exec_writes_a_and_flags (i := .daa) (s := s) rfl
  have hc : t.flag .c = (daaAdjust s.a (s.flag .n) (s.flag .h) (s.flag .c)).2 := hflag .c
  replace ha : t.a = daaValue s.a (s.flag .n) (s.flag .h) (s.flag .c) := ha
  refine ⟨t, hexec, fun hn => ?add, fun hn => ?sub, (hflag .z).trans (ha ▸ rfl), hflag .h, hpc, hframe⟩
  case add =>
    rw [hn] at ha hc
    obtain ⟨hboth, hlow, hhigh, hneither⟩ := daaValue_add_cases s.a (s.flag .h) (s.flag .c)
    rw [ha, hc]
    exact ⟨hboth, hlow, hhigh, hneither, (daa_add _ _ _).2⟩
  case sub =>
    rw [hn] at ha hc
    rw [ha, hc]
    exact daa_sub _ _ _

end

end Sys2Proof

namespace Sys2Proof.Machine

/-! ### Bit test, rotates, shifts, bit reset and set (R180 to R195)

A rotate or shift writes its operand and its flags, `BIT` only flags, `RES` and `SET` only the operand. -/

theorem Frame.widen_flags {w : Touches} {s t : State} (h : Frame w s t) {gs : List Flag}
    (hgs : w.flags ⊆ gs) : Frame { w with flags := gs } s t :=
  { h with flags := fun g hg => h.flags g fun hmem => hg (hgs hmem) }

theorem FlagWrite.written_subset_allFlags (k : FlagWrite) : k.written ⊆ allFlags :=
  List.filter_subset_self allFlags

section

variable {i : Instr} {s : State} {len : Nat} {o : Loc8} {v : Byte} {z n hc c : Bool}

theorem exec_writes_loc (h : exec i s = .next ((s.setLoc o v).advance len)) :
    ∃ t, exec i s = .next t ∧ t.loc o = v ∧ t.pc = s.pc + BitVec.ofNat 16 len ∧
      Frame { regs := o.regs, stores := o.stores s } s t :=
  ⟨_, h, by simp, by simp, (Frame.start _ s _).setLoc (fun _ hr => hr) (fun _ ha => ha) v⟩

theorem exec_writes_loc_and_all_flags
    (h : exec i s = .next (((s.setLoc o v).withFlags (.all z n hc c)).advance len)) :
    ∃ t, exec i s = .next t ∧ t.loc o = v ∧ t.flag .c = c ∧ t.flag .z = z ∧ t.flag .n = n ∧
      t.flag .h = hc ∧ t.pc = s.pc + BitVec.ofNat 16 len ∧
      Frame { regs := o.regs, stores := o.stores s, flags := allFlags } s t := by
  obtain ⟨t, hexec, hloc, hflag, hpc, hframe⟩ :=
    exec_writes_loc_and_flags (fun _ => FlagWrite.get_eq_none_of_not_written) h
  exact ⟨t, hexec, hloc, hflag .c, hflag .z, hflag .n, hflag .h, hpc, hframe⟩

end

/-! #### What a rotate or shift answers (R181 to R191, R194, R195) -/

section

variable {i : Instr} {s : State} {res : Byte} {c : Bool}

theorem exec_of_form_rot {op : RotOp} {o : Loc8} (hi : i.form = .rot op o)
    (hop : rotate8 op (s.loc o) s.carry = (res, c)) :
    exec i s = .next (((s.setLoc o res).withFlags
      (rotateFlags s.config.rotFlags op res c)).advance 2) :=
  calc exec i s
      = rotateLoc op o s := exec_of_form hi s
    _ = _ := by rw [rotateLoc, hop]

theorem exec_of_form_rotA {op : RotAOp} (hi : i.form = .rotA op)
    (hop : rotate8 (rotAOp op) s.a s.carry = (res, c)) :
    exec i s = .next (((s.setLoc (.reg .a) res).withFlags
      (rotateAFlags s.config.rotFlags op c)).advance 1) :=
  calc exec i s
      = rotateA op s := exec_of_form hi s
    _ = _ := by rw [rotateA, hop]; rfl

end

/-! #### The flags of the left rotates, by `ROT_FLAGS` (R181 to R184) -/

/-- C alone under `gb`; all four under `lr35902`, where Z is what the instruction makes of it. -/
def rotateLeftFlags (rf : RotFlags) (z c : Bool) : FlagWrite :=
  match rf with
  | .gb => { c := some c }
  | .lr35902 => .all z false false c

theorem rotateLeftFlags_get_c (rf : RotFlags) (z c : Bool) :
    (rotateLeftFlags rf z c).get .c = some c := by
  cases rf <;> rfl

theorem rotateFlags_of_left {op : RotOp} (hop : op = .rlc ∨ op = .rl) (rf : RotFlags) (res : Byte)
    (c : Bool) : rotateFlags rf op res c = rotateLeftFlags rf (decide (res = 0)) c := by
  obtain rfl | rfl := hop <;> cases rf <;> rfl

theorem rotateAFlags_of_left {op : RotAOp} (hop : op = .rlca ∨ op = .rla) (rf : RotFlags) (c : Bool) :
    rotateAFlags rf op c = rotateLeftFlags rf false c := by
  obtain rfl | rfl := hop <;> cases rf <;> rfl

/-- What every left rotate leaves, under both values of `ROT_FLAGS`. -/
theorem exec_rotates_left {i : Instr} {s : State} {len : Nat} {o : Loc8} {res : Byte} {z c : Bool}
    (h : exec i s = .next (((s.setLoc o res).withFlags
      (rotateLeftFlags s.config.rotFlags z c)).advance len)) :
    ∃ t, exec i s = .next t ∧ t.loc o = res ∧ t.flag .c = c ∧
      t.pc = s.pc + BitVec.ofNat 16 len ∧
      (s.config.rotFlags = .gb → Frame { regs := o.regs, stores := o.stores s, flags := [.c] } s t) ∧
      (s.config.rotFlags = .lr35902 → t.flag .z = z ∧ t.flag .n = false ∧ t.flag .h = false) ∧
      Frame { regs := o.regs, stores := o.stores s, flags := allFlags } s t := by
  obtain ⟨t, hexec, hloc, hflag, hpc, hframe⟩ :=
    exec_writes_loc_and_flags (fun _ => FlagWrite.get_eq_none_of_not_written) h
  refine ⟨t, hexec, hloc, ?carry, hpc, fun hgb => ?gb, fun hlr => ?lr35902,
    hframe.widen_flags (FlagWrite.written_subset_allFlags _)⟩
  case carry => rw [hflag, rotateLeftFlags_get_c, Option.getD_some]
  case gb =>
    rw [hgb] at hframe
    exact hframe
  case lr35902 =>
    rw [hlr] at hflag
    exact ⟨hflag .z, hflag .n, hflag .h⟩

theorem exec_of_form_rot_left {i : Instr} {op : RotOp} {o : Loc8} (hi : i.form = .rot op o)
    (hleft : op = .rlc ∨ op = .rl) {s : State} {res : Byte} {c : Bool}
    (hop : rotate8 op (s.loc o) s.carry = (res, c)) :
    exec i s = .next (((s.setLoc o res).withFlags
      (rotateLeftFlags s.config.rotFlags (decide (res = 0)) c)).advance 2) := by
  rw [exec_of_form_rot hi hop, rotateFlags_of_left hleft]

theorem exec_of_form_rotA_left {i : Instr} {op : RotAOp} (hi : i.form = .rotA op)
    (hleft : op = .rlca ∨ op = .rla) {s : State} {res : Byte} {c : Bool}
    (hop : rotate8 (rotAOp op) s.a s.carry = (res, c)) :
    exec i s = .next (((s.setLoc (.reg .a) res).withFlags
      (rotateLeftFlags s.config.rotFlags false c)).advance 1) := by
  rw [exec_of_form_rotA hi hop, rotateAFlags_of_left hleft]

/-- Settles O46: all four are one left rotate of an operand, with the value of `rotate8`. -/
theorem rotateLeft : Obligations.RotateLeft := by
  refine ⟨fun i o hi => ⟨encode_of_form hi, fun s => ?rlc⟩,
    fun i o hi => ⟨encode_of_form hi, ?rl⟩, ⟨rfl, fun s => ?rlca⟩, rfl, fun s => ?rla⟩
  case rlc =>
    obtain ⟨hrlc, -⟩ := rotate8_eq (s.loc o) s.carry
    exact exec_rotates_left (exec_of_form_rot_left hi (.inl rfl) hrlc)
  case rl =>
    rintro s _ rfl
    obtain ⟨-, -, hrl, -⟩ := rotate8_eq (s.loc o) s.carry
    exact exec_rotates_left (exec_of_form_rot_left hi (.inr rfl) hrl)
  case rlca =>
    obtain ⟨hrlc, -⟩ := rotate8_eq s.a s.carry
    exact exec_rotates_left (exec_of_form_rotA_left (i := .rlca) rfl (.inl rfl) hrlc)
  case rla =>
    obtain ⟨-, -, hrl, -⟩ := rotate8_eq s.a s.carry
    exact exec_rotates_left (exec_of_form_rotA_left (i := .rla) rfl (.inr rfl) hrl)

/-! #### The rotates and shifts that write all four flags (R186 to R191, R194, R195) -/

theorem rotateFlags_of_not_left {op : RotOp} (hrlc : op ≠ .rlc) (hrl : op ≠ .rl) (rf : RotFlags)
    (res : Byte) (c : Bool) : rotateFlags rf op res c = .all (decide (res = 0)) false false c := by
  cases op with
  | rlc => exact absurd rfl hrlc
  | rl => exact absurd rfl hrl
  | rrc | rr | sla | sra | swap | srl => rfl

theorem exec_of_form_rot_not_left {i : Instr} {op : RotOp} {o : Loc8} (hi : i.form = .rot op o)
    (hrlc : op ≠ .rlc) (hrl : op ≠ .rl) {s : State} {res : Byte} {c : Bool}
    (hop : rotate8 op (s.loc o) s.carry = (res, c)) :
    exec i s = .next (((s.setLoc o res).withFlags
      (.all (decide (res = 0)) false false c)).advance 2) := by
  rw [exec_of_form_rot hi hop, rotateFlags_of_not_left hrlc hrl]

/-- Settles O47: one write of the operand and all flags, with the value and the carry of `rotate8`. -/
theorem rotateRightShiftSwap : Obligations.RotateRightShiftSwap := by
  refine fun i op o hi hrlc hrl => ⟨encode_of_form hi, ?_⟩
  rintro s _ rfl
  obtain ⟨t, hexec, hloc, hc, hz, hrest⟩ :=
    exec_writes_loc_and_all_flags (exec_of_form_rot_not_left hi hrlc hrl (s := s) rfl)
  have hout : ∀ {op' : RotOp} {res : Byte} {c : Bool}, rotate8 op' (s.loc o) s.carry = (res, c) →
      op = op' → t.loc o = res ∧ t.flag .c = c := by
    rintro _ _ _ hop rfl
    exact Prod.mk.inj (hop ▸ Prod.ext hloc hc)
  obtain ⟨-, hrrc, -, hrr, hsla, hsra, hswap, hsrl⟩ := rotate8_eq (s.loc o) s.carry
  exact ⟨t, hexec, hout hrrc, hout hrr, hout hsla, hout hsra, hout hswap, hout hsrl,
    hloc ▸ hz, hrest⟩

theorem rotateAFlags_of_right {op : RotAOp} (hop : op = .rrca ∨ op = .rra) (rf : RotFlags) (c : Bool) :
    rotateAFlags rf op c = .all false false false c := by
  obtain rfl | rfl := hop <;> rfl

theorem exec_of_form_rotA_right {i : Instr} {op : RotAOp} (hi : i.form = .rotA op)
    (hright : op = .rrca ∨ op = .rra) {s : State} {res : Byte} {c : Bool}
    (hop : rotate8 (rotAOp op) s.a s.carry = (res, c)) :
    exec i s = .next (((s.setLoc (.reg .a) res).withFlags (.all false false false c)).advance 1) := by
  rw [exec_of_form_rotA hi hop, rotateAFlags_of_right hright]

/-- Settles O48: one write of `A` and all flags, Z false. -/
theorem rotateAccumulatorRight : Obligations.RotateAccumulatorRight := by
  refine ⟨⟨rfl, fun s => ?rrca⟩, rfl, fun s => ?rra⟩
  case rrca =>
    obtain ⟨-, hrrc, -⟩ := rotate8_eq s.a s.carry
    exact exec_writes_loc_and_all_flags (exec_of_form_rotA_right (i := .rrca) rfl (.inl rfl) hrrc)
  case rra =>
    obtain ⟨-, -, -, hrr, -⟩ := rotate8_eq s.a s.carry
    exact exec_writes_loc_and_all_flags (exec_of_form_rotA_right (i := .rra) rfl (.inr rfl) hrr)

/-! #### `BIT`, `RES`, `SET` (R185, R192, R193) -/

/-- Settles O49: `BIT` is one flag write that leaves C, `RES` and `SET` one write of the operand. -/
theorem bitTestResetAndSet : Obligations.BitTestResetAndSet := by
  refine ⟨fun i y o hi => ⟨encode_of_form hi, fun s => ?bit⟩,
    fun i y o hi => ⟨encode_of_form hi, fun s => ?res⟩,
    fun i y o hi => ⟨encode_of_form hi, fun s => ?set⟩⟩
  case bit =>
    obtain ⟨t, hexec, hflag, hpc, hframe⟩ := exec_writes_flags (exec_of_form hi s)
    exact ⟨t, hexec, hflag .z, hflag .n, hflag .h, hpc, hframe⟩
  case res =>
    obtain ⟨t, hexec, hloc, hrest⟩ := exec_writes_loc (exec_of_form hi s)
    exact ⟨t, hexec, fun k => hloc ▸ (bit_reset_set (s.loc o) y k).1, hrest⟩
  case set =>
    obtain ⟨t, hexec, hloc, hrest⟩ := exec_writes_loc (exec_of_form hi s)
    exact ⟨t, hexec, fun k => hloc ▸ (bit_reset_set (s.loc o) y k).2, hrest⟩

end Sys2Proof.Machine

namespace Sys2Proof.Machine

/-! ### Absolute jumps (R69, R202, R203, R204) -/

/-- An instruction that is only a transfer of control: `pc` takes the target, the frame is empty (R100). -/
theorem exec_transfers {i : Instr} {s : State} {target : Word} (h : exec i s = .next (s.jumpTo target)) :
    ∃ t, exec i s = .next t ∧ t.pc = target ∧ Frame {} s t :=
  ⟨s.jumpTo target, h, rfl, frame_jumpTo s target⟩

theorem exec_jp_nn (nn : Word) (s : State) : exec (.jp_nn nn) s = .next (s.jumpTo nn) := rfl

/-- The target is `HL` itself, not the word it points to (R204). -/
theorem exec_jp_HL (s : State) : exec .jp_HL s = .next (s.jumpTo s.hl) := rfl

/-- The top bit of the field y of `JP cc,nn` is 0, so y is the condition's number (R69). -/
theorem encode_of_form_jpIf {i : Instr} {k : Cond} {nn : Word} (hi : i.form = .jpIf k nn) :
    encode i = [0b110#3 ++ k.code ++ 0b010#3, loByte nn, hiByte nn] := by
  rw [encode_of_form hi]
  cases k <;> rfl

theorem exec_of_form_jpIf {i : Instr} {k : Cond} {nn : Word} (hi : i.form = .jpIf k nn) (s : State) :
    exec i s = .next (s.jumpTo (if s.cond k then nn else s.pc + 3)) :=
  (exec_of_form hi s).trans (jumpAbsIf_eq k nn s)

/-- Settles O51: all three are a transfer to the address their rule gives. -/
theorem absoluteJumps : Obligations.AbsoluteJumps :=
  ⟨fun nn => ⟨rfl, fun s => exec_transfers (exec_jp_nn nn s)⟩,
    fun _ _ _ hi => ⟨encode_of_form_jpIf hi, fun s => exec_transfers (exec_of_form_jpIf hi s)⟩,
    rfl, fun s => exec_transfers (exec_jp_HL s)⟩

end Sys2Proof.Machine

namespace Sys2Proof.Machine

/-! ### Stack, call, return and restart (R210 to R221)

What an instruction answers is a push and a transfer of control, or a pop and one. An advance is a transfer to
the next address (R98). -/

section

variable {w : Touches} {s t : State} {p : Word}

/-- A push of one byte steps `sp` down and stores at the new `sp` (R20). -/
theorem Frame.pushByte (h : Frame w s (t.jumpTo p)) (hsp : w.sp = true) (ha : t.sp - 1 ∈ w.stores)
    (v : Byte) : Frame w s ((t.pushByte v).jumpTo p) :=
  (h.setSP hsp (t.sp - 1)).writeMem ha v

/-- A push is two byte pushes (R48). -/
theorem Frame.push16 (h : Frame w s (t.jumpTo p)) (hsp : w.sp = true) (ha : t.sp - 1 ∈ w.stores)
    (ha' : t.sp - 2 ∈ w.stores) (v : Word) : Frame w s ((t.push16 v).jumpTo p) :=
  (h.pushByte hsp ha (hiByte v)).pushByte hsp (sp_sub_two t.sp ▸ ha') (loByte v)

/-- A pop leaves the stack bytes and steps `sp` only (R20). -/
theorem Frame.drop16 (h : Frame w s (t.jumpTo p)) (hsp : w.sp = true) :
    Frame w s (t.drop16.jumpTo p) :=
  h.setSP hsp (t.sp + 1 + 1)

theorem Frame.setIME (h : Frame w s (t.jumpTo p)) (hw : w.ime = true) (b : Bool) :
    Frame w s ({ t with ime := b }.jumpTo p) :=
  { h with ime := fun hf => absurd hw (by simp [hf]) }

/-- Of the pairs of `rp2[]` only `AF` is no pair of `rp[]` (R68). -/
theorem Frame.setRP2 (h : Frame w s (t.jumpTo p)) {q : RP2} (hq : ∀ r ∈ q.regs, r ∈ w.regs)
    (haf : q ≠ .af) (v : Word) : Frame w s ((t.setRP2 q v).jumpTo p) := by
  cases q with
  | bc => exact h.setRP (q := .bc) hq nofun v
  | de => exact h.setRP (q := .de) hq nofun v
  | hl => exact h.setRP (q := .hl) hq nofun v
  | af => exact absurd rfl haf

end

@[simp] theorem rp2_jumpTo (s : State) (q : RP2) (target : Word) :
    (s.jumpTo target).rp2 q = s.rp2 q := by
  cases q <;> rfl

section

variable {i : Instr} {s : State} {target : Word}

/-- The two bytes of a push lie at different addresses, also where `sp` wraps (R210). -/
theorem exec_pushes {v : Word} (h : exec i s = .next ((s.push16 v).jumpTo target)) :
    ∃ t, exec i s = .next t ∧ t.pc = target ∧ t.readMem (s.sp - 1) = hiByte v ∧
      t.readMem (s.sp - 2) = loByte v ∧ t.sp = s.sp - 2 ∧
      Frame { stores := [s.sp - 1, s.sp - 2], sp := true } s t := by
  have hne : s.sp - 1 ≠ s.sp - 1 - 1 := ne_sub_one (s.sp - 1)
  have hhi : (s.push16 v).readMem (s.sp - 1) = hiByte v := by
    rw [readMem_push16, if_neg hne, if_pos rfl]
  have hlo : (s.push16 v).readMem (s.sp - 2) = loByte v := by
    rw [readMem_push16, if_pos (sp_sub_two s.sp)]
  exact ⟨_, h, rfl, hhi, hlo, (sp_sub_two s.sp).symm,
    (Frame.start _ s target).push16 rfl (by simp) (by simp) v⟩

/-- A return goes to whatever the two bytes at `sp` are (R216). -/
theorem exec_returns (h : exec i s = .next (s.drop16.jumpTo s.top16)) :
    ∃ t, exec i s = .next t ∧ t.pc = mkWord (s.readMem (s.sp + 1)) (s.readMem s.sp) ∧
      t.sp = s.sp + 2 ∧ Frame { sp := true } s t :=
  ⟨_, h, rfl, (sp_add_two s.sp).symm, (Frame.start _ s s.top16).drop16 rfl⟩

/-- `POP` of a pair other than `AF`, which keeps all the bits popped (R211). -/
theorem exec_pops_pair {q : RP2} (haf : q ≠ .af)
    (h : exec i s = .next ((s.drop16.setRP2 q s.top16).jumpTo target)) :
    ∃ t, exec i s = .next t ∧ t.rp2 q = mkWord (s.readMem (s.sp + 1)) (s.readMem s.sp) ∧
      t.sp = s.sp + 2 ∧ t.pc = target ∧ Frame { regs := q.regs, sp := true } s t := by
  refine ⟨_, h, ?value, ?sp, rfl, ?frame⟩
  case value => rw [rp2_jumpTo, rp2_setRP2, if_neg haf, State.top16]
  case sp => rw [jumpTo_sp, setRP2_sp, drop16_sp, sp_add_two]
  case frame => exact ((Frame.start _ s target).drop16 rfl).setRP2 (fun _ hr => hr) haf s.top16

end

/-- The top bit of the field y of a conditional call or return is 0, so y is the condition's number (R69). -/
theorem opcode_condLow (k : Cond) (z : BitVec 3) : opcode 3 (condLow k) z = 0b110#3 ++ k.code ++ z := by
  cases k <;> rfl

/-! #### Push and pop (R210, R211) -/

section

variable {i : Instr} {q : RP2}

/-- The q and z of `PUSH rp2` (R210). -/
theorem encode_of_form_push (hi : i.form = .push q) : encode i = [0b11#2 ++ q.code ++ 0b0101#4] :=
  (encode_of_form hi).trans (congrArg ([·]) (opcodePQ_eq_append 3 q.code 0 5))

/-- The q and z of `POP rp2` (R211). -/
theorem encode_of_form_pop (hi : i.form = .pop q) : encode i = [0b11#2 ++ q.code ++ 0b0001#4] :=
  (encode_of_form hi).trans (congrArg ([·]) (opcodePQ_eq_append 3 q.code 0 1))

theorem exec_of_form_push (hi : i.form = .push q) (s : State) :
    exec i s = .next ((s.push16 (s.rp2 q)).jumpTo (s.pc + 1)) :=
  exec_of_form hi s

theorem exec_of_form_pop (hi : i.form = .pop q) (s : State) :
    exec i s = .next ((s.drop16.setRP2 q s.top16).jumpTo (s.pc + 1)) := by
  have hpc : (s.drop16.setRP2 q s.top16).pc = s.pc := by rw [setRP2_pc, drop16_pc]
  rw [← hpc]
  exact exec_of_form hi s

end

/-- Settles O52: `PUSH` is a push, `POP` a pop and a pair write, each with an advance. -/
theorem pushAndPop : Obligations.PushAndPop := by
  refine ⟨fun i q hi => ⟨encode_of_form_push hi, fun s => ?push⟩,
    fun i q hi haf => ⟨encode_of_form_pop hi, fun s => exec_pops_pair haf (exec_of_form_pop hi s)⟩⟩
  obtain ⟨t, hexec, hpc, hhi, hlo, hsp, hframe⟩ := exec_pushes (exec_of_form_push hi s)
  exact ⟨t, hexec, hhi, hlo, hsp, hpc, hframe⟩

/-! #### Call and restart (R213, R215, R221) -/

theorem exec_call_nn (nn : Word) (s : State) :
    exec (.call_nn nn) s = .next ((s.push16 (s.pc + 3)).jumpTo nn) := rfl

section

variable {i : Instr} {k : Cond} {nn : Word} {s : State}

theorem encode_of_form_callIf (hi : i.form = .callIf k nn) :
    encode i = [0b110#3 ++ k.code ++ 0b100#3, loByte nn, hiByte nn] :=
  (encode_of_form hi).trans (congrArg (· :: wordBytes nn) (opcode_condLow k 4))

theorem exec_of_form_callIf_taken (hi : i.form = .callIf k nn) (hk : s.cond k = true) :
    exec i s = .next ((s.push16 (s.pc + 3)).jumpTo nn) :=
  calc exec i s
      = callAbsIf k nn s := exec_of_form hi s
    _ = _ := by rw [callAbsIf_eq, if_pos hk]

theorem exec_of_form_callIf_untaken (hi : i.form = .callIf k nn) (hk : s.cond k = false) :
    exec i s = .next (s.jumpTo (s.pc + 3)) :=
  calc exec i s
      = callAbsIf k nn s := exec_of_form hi s
    _ = _ := by rw [callAbsIf_eq, if_neg (Bool.eq_false_iff.mp hk)]

end

theorem exec_of_form_rst {i : Instr} {y : Fin 8} (hi : i.form = .rst y) (s : State) :
    exec i s = .next ((s.push16 (s.pc + 1)).jumpTo (BitVec.ofNat 16 (y.val * 8))) :=
  exec_of_form hi s

/-- The restart addresses, 0x00 to 0x38, are words (R221). -/
theorem toNat_restart_target (y : Fin 8) : (BitVec.ofNat 16 (y.val * 8)).toNat = y.val * 8 := by
  rw [BitVec.toNat_ofNat, Nat.mod_eq_of_lt (by omega)]

/-- Settles O54: each call is a push of the return address and a transfer; an untaken one is a
transfer only. -/
theorem callsAndRestart : Obligations.CallsAndRestart := by
  refine ⟨fun nn => ⟨rfl, fun s => exec_pushes (exec_call_nn nn s)⟩,
    fun i k nn hi => ⟨encode_of_form_callIf hi,
      fun s hk => exec_pushes (exec_of_form_callIf_taken hi hk),
      fun s hk => exec_transfers (exec_of_form_callIf_untaken hi hk)⟩,
    fun i y hi => ⟨encode_of_form hi, fun s => ?rst⟩⟩
  obtain ⟨t, hexec, hpc, hstack⟩ := exec_pushes (exec_of_form_rst hi s)
  exact ⟨t, hexec, hpc ▸ toNat_restart_target y, hstack⟩

/-! #### Returns (R216, R217, R220) -/

theorem exec_ret (s : State) : exec .ret s = .next (s.drop16.jumpTo s.top16) := rfl

theorem exec_reti (s : State) :
    exec .reti s = .next ({ s.drop16 with ime := true }.jumpTo s.top16) := rfl

section

variable {i : Instr} {k : Cond} {s : State}

theorem encode_of_form_retIf (hi : i.form = .retIf k) :
    encode i = [0b110#3 ++ k.code ++ 0b000#3] :=
  (encode_of_form hi).trans (congrArg ([·]) (opcode_condLow k 0))

theorem exec_of_form_retIf_taken (hi : i.form = .retIf k) (hk : s.cond k = true) :
    exec i s = .next (s.drop16.jumpTo s.top16) :=
  calc exec i s
      = returnIf k s := exec_of_form hi s
    _ = _ := by rw [returnIf_eq, if_pos hk]

theorem exec_of_form_retIf_untaken (hi : i.form = .retIf k) (hk : s.cond k = false) :
    exec i s = .next (s.jumpTo (s.pc + 1)) :=
  calc exec i s
      = returnIf k s := exec_of_form hi s
    _ = _ := by rw [returnIf_eq, if_neg (Bool.eq_false_iff.mp hk)]

end

/-- Settles O55: each return is a pop of `pc`, `RETI` with a write of `ime`; an untaken one is a
transfer only. -/
theorem returns : Obligations.Returns :=
  ⟨⟨rfl, fun s => exec_returns (exec_ret s)⟩,
    fun _ _ hi => ⟨encode_of_form_retIf hi,
      fun _ hk => exec_returns (exec_of_form_retIf_taken hi hk),
      fun _ hk => exec_transfers (exec_of_form_retIf_untaken hi hk)⟩,
    rfl, fun s => ⟨_, exec_reti s, rfl, (sp_add_two s.sp).symm, rfl,
      ((Frame.start _ s s.top16).drop16 rfl).setIME rfl true⟩⟩

end Sys2Proof.Machine

namespace Sys2Proof.Machine

/-! ### 16-bit addition (R230 to R232)

What an instruction answers is a write of a pair, of some flags, and an advance. -/

@[simp] theorem rp_withFlags (s : State) (k : FlagWrite) (p : RP) : (s.withFlags k).rp p = s.rp p := by
  cases p <;> rfl

@[simp] theorem flag_setRP (s : State) (p : RP) (v : Word) (g : Flag) :
    (s.setRP p v).flag g = s.flag g := by
  cases p <;> cases g <;> rfl

section

variable {i : Instr} {s : State} {len : Nat} {p : RP}

theorem exec_writes_pair_and_flags {v : Word} {k : FlagWrite}
    (h : exec i s = .next (((s.setRP p v).withFlags k).advance len)) :
    ∃ t, exec i s = .next t ∧ t.rp p = v ∧ (∀ g, t.flag g = (k.get g).getD (s.flag g)) ∧
      t.pc = s.pc + BitVec.ofNat 16 len ∧
      Frame { regs := p.regs, sp := p == .sp, flags := k.written } s t :=
  ⟨_, h, by simp, by simp, by simp,
    ((Frame.start _ s _).setRP (fun _ hr => hr) (by simp) v).withFlags
      fun _ => FlagWrite.get_eq_none_of_not_written⟩

/-- The q and z of `ADD HL,rp` (R72). -/
theorem encode_of_form_addHL (hi : i.form = .addHL p) : encode i = [0b00#2 ++ p.code ++ 0b1001#4] :=
  (encode_of_form hi).trans (congrArg ([·]) (opcodePQ_eq_append 0 p.code 1 1))

/-- `ADD HL,rp` is a write of the pair `HL` (R230). -/
theorem exec_of_form_addHL (hi : i.form = .addHL p) (s : State) :
    exec i s = .next (((s.setRP .hl (s.hl + s.rp p)).withFlags
      (addHLFlags s.hl (s.rp p))).advance 1) :=
  exec_of_form hi s

/-- The sum of `sp` and the displacement, in `sp` or `HL`, with the flags both rules share (R231, R232). -/
theorem exec_adds_displacement_to_sp {d : Byte}
    (h : exec i s = .next (((s.setRP p (s.sp + sext16 d)).withFlags
      (addSPFlags s.sp d)).advance len)) :
    ∃ t, exec i s = .next t ∧ t.rp p = s.sp + d.signExtend 16 ∧
      t.flag .z = false ∧ t.flag .n = false ∧
      t.flag .h = decide (s.sp.toNat % 16 + d.toNat % 16 > 0xF) ∧
      t.flag .c = decide (s.sp.toNat % 256 + d.toNat > 0xFF) ∧
      t.pc = s.pc + BitVec.ofNat 16 len ∧
      Frame { regs := p.regs, sp := p == .sp, flags := allFlags } s t := by
  obtain ⟨t, hexec, hsum, hflag, hpc, hframe⟩ := exec_writes_pair_and_flags h
  exact ⟨t, hexec, hsum, hflag .z, hflag .n, hflag .h, hflag .c, hpc, hframe⟩

end

/-- Settles O57: both are one sum with one flag write, into `sp` and into `HL`. -/
theorem addDisplacementToSP : Obligations.AddDisplacementToSP :=
  ⟨fun _ => ⟨rfl, fun _ => exec_adds_displacement_to_sp (p := .sp) rfl⟩,
    fun _ => ⟨rfl, fun _ => exec_adds_displacement_to_sp (p := .hl) rfl⟩⟩

end Sys2Proof.Machine

namespace Sys2Proof

section

open Machine

/-- Settles O56: one write of `HL`, with the sum of two words, and a flag write that leaves Z.
(In `Sys2Proof.Machine` the name is the model's operation.) -/
theorem addPairToHL : Obligations.AddPairToHL := by
  refine fun i p hi => ⟨encode_of_form_addHL hi, fun s => ?_⟩
  obtain ⟨t, hexec, hhl, hflag, hpc, hframe⟩ := exec_writes_pair_and_flags (exec_of_form_addHL hi s)
  have hsum : t.hl.toNat = (s.hl.toNat + (s.rp p).toNat) % 65536 :=
    (congrArg BitVec.toNat hhl).trans (BitVec.toNat_add s.hl (s.rp p))
  exact ⟨t, hexec, hsum, hflag .n, hflag .h, hflag .c, hpc, hframe⟩

end

end Sys2Proof

namespace Sys2Proof.Machine

/-! ### System instructions (R240 to R243)

What an instruction answers is one latch or `ime` written, and a transfer to the next address. A latched
machine is idle, and the host reads off why (R256). -/

section

variable {s : State}

theorem latchStatus_of_no_fault (hf : s.fault = none) : latchStatus s = .ok := by
  rw [latchStatus, hf]

/-- An idle machine's step does nothing and says why (R256). -/
theorem runInstruction_of_not_running (hf : s.fault = none) (hh : s.halted ≠ .running) :
    runInstruction s = (idleStatus s, s) := by
  obtain ⟨r, hr, _⟩ | ⟨_, _, _, hidle⟩ | ⟨hrun, _⟩ := step_runInstruction_cases s
  · exact absurd (hf.symm.trans hr) nofun
  · exact hidle
  · exact absurd hrun.2 hh

theorem runInstruction_of_halted (hf : s.fault = none) (hh : s.halted = .halted) :
    runInstruction s = (.halted, s) := by
  rw [runInstruction_of_not_running hf (by simp [hh]), idleStatus, hh]

theorem runInstruction_of_stopped (hf : s.fault = none) (hh : s.halted = .stopped) :
    runInstruction s = (.stopped, s) := by
  rw [runInstruction_of_not_running hf (by simp [hh]), idleStatus, hh]

variable {w : Touches} {t : State} {p : Word}

theorem Frame.setHalted (h : Frame w s (t.jumpTo p)) (hw : w.halted = true) (k : RunState) :
    Frame w s ({ t with halted := k }.jumpTo p) :=
  { h with halted := fun hf => absurd hw (by simp [hf]) }

variable {i : Instr} {target : Word}

/-- An instruction that latches `k` completes (R99), and the next step is one of a machine latched in `k`. -/
theorem exec_latches {k : RunState} {st : Status}
    (hlater : ∀ t : State, t.fault = none → t.halted = k → runInstruction t = (st, t))
    (h : exec i s = .next ({ s with halted := k }.jumpTo target)) :
    ∃ t, exec i s = .next t ∧ t.halted = k ∧ t.pc = target ∧ Frame { halted := true } s t ∧
      (s.fault = none → latchStatus t = .ok ∧ runInstruction t = (st, t)) :=
  ⟨_, h, rfl, rfl, (Frame.start _ s target).setHalted rfl k,
    fun hf => ⟨latchStatus_of_no_fault hf, hlater _ hf rfl⟩⟩

theorem exec_writes_ime {b : Bool} (h : exec i s = .next ({ s with ime := b }.jumpTo target)) :
    ∃ t, exec i s = .next t ∧ t.ime = b ∧ t.pc = target ∧ Frame { ime := true } s t :=
  ⟨_, h, rfl, rfl, (Frame.start _ s target).setIME rfl b⟩

end

theorem exec_halt (s : State) :
    exec .halt s = .next ({ s with halted := .halted }.jumpTo (s.pc + 1)) := rfl

/-- The immediate byte is ignored (R241). -/
theorem exec_stop (n : Byte) (s : State) :
    exec (.stop n) s = .next ({ s with halted := .stopped }.jumpTo (s.pc + 2)) := rfl

theorem exec_di (s : State) : exec .di s = .next ({ s with ime := false }.jumpTo (s.pc + 1)) := rfl

theorem exec_ei (s : State) : exec .ei s = .next ({ s with ime := true }.jumpTo (s.pc + 1)) := rfl

/-- Settles O58: `HALT` and `STOP` are a latch and a transfer to the next address, `DI` and `EI` a write of
`ime` and such a transfer. -/
theorem systemInstructions : Obligations.SystemInstructions :=
  ⟨⟨rfl, fun s => exec_latches (fun _ => runInstruction_of_halted) (exec_halt s)⟩,
    fun n => ⟨rfl, fun s => exec_latches (fun _ => runInstruction_of_stopped) (exec_stop n s)⟩,
    ⟨rfl, fun s => exec_writes_ime (exec_di s)⟩,
    rfl, fun s => exec_writes_ime (exec_ei s)⟩

end Sys2Proof.Machine

namespace Sys2Proof

/-! ### Decoding and encoding (R60 to R65, R90 to R96)

What a slot's operation makes of operand bytes is said once, as the relation `Slot.Makes`. The decoder accepts
the encodings of what the slots make and nothing else (`decode_eq_ok_iff`). -/

/-- The instruction a slot's operation makes of its operand bytes, in address order. The escape slot makes
none (R245). -/
inductive Operation.Makes (op : Byte) : Operation → List Byte → Instr → Prop where
  | plain (i : Instr) : Makes op (.plain i) [] i
  | imm8 {make : Byte → Instr} {n : Byte} {i : Instr} (h : make n = i) : Makes op (.imm8 make) [n] i
  | disp {make : Byte → Instr} {d : Byte} {i : Instr} (h : make d = i) : Makes op (.disp make) [d] i
  | imm16 {make : Word → Instr} {nn : Word} {i : Instr} (h : make nn = i) :
    Makes op (.imm16 make) (wordBytes nn) i
  | undefined : Makes op .undefined [] (.illegal op)

def Slot.Makes (s : Slot) (operands : List Byte) (i : Instr) : Prop :=
  (lookup s).operation.Makes s.byte operands i

/-- The operand fetch, by the operation it is for. -/
def Operation.fetch (operation : Operation) (slot : Slot) (start : Nat) (bs : List Byte) :
    DecodeResult :=
  match operation, bs with
  | .plain i, bs => .ok slot i bs
  | .imm8 make, n :: rest => .ok slot (make n) rest
  | .disp make, d :: rest => .ok slot (make d) rest
  | .imm16 make, lo :: hi :: rest => .ok slot (make (mkWord hi lo)) rest
  | .undefined, bs => .ok slot (.illegal slot.byte) bs
  | .escape, bs => .ok slot .prefixCB bs
  | _, bs => .truncated (start + bs.length)

theorem lookup_flags_eq_reads (slot : Slot) :
    (lookup slot).hasDisp = (lookup slot).operation.readsDisp ∧
    (lookup slot).immSize = (lookup slot).operation.readsImm := by
  simpa [Descriptor.consistent] using lookup_consistent slot

/-- The flags of the descriptor are those of its operation (R82), so the fetch may be read off the
operation. -/
theorem decodeOperands_eq_fetch (slot : Slot) (start : Nat) (bs : List Byte) :
    decodeOperands slot start bs = (lookup slot).operation.fetch slot start bs := by
  obtain ⟨hdisp, himm⟩ := lookup_flags_eq_reads slot
  unfold decodeOperands
  dsimp only
  rw [hdisp, himm]
  generalize (lookup slot).operation = operation
  cases operation with
  | plain | undefined | escape => rfl
  | disp make => cases bs <;> rfl
  | imm8 make =>
    cases bs with
    | nil => rfl
    | cons n rest => exact congrArg (fun n => DecodeResult.ok slot (make n) rest) (loByte_zext16 n)
  | imm16 make => rcases bs with _ | ⟨lo, _ | ⟨hi, rest⟩⟩ <;> rfl

/-- The fetch answers what the operation makes of the bytes it takes. -/
theorem Operation.makes_of_fetch {operation : Operation} {slot slot' : Slot} {start : Nat}
    {bs rest : List Byte} {i : Instr} (he : operation ≠ .escape)
    (h : operation.fetch slot start bs = .ok slot' i rest) :
    slot' = slot ∧ ∃ operands, operation.Makes slot.byte operands i ∧ bs = operands ++ rest := by
  unfold Operation.fetch at h
  split at h <;> cases h
  · exact ⟨rfl, _, .plain _, rfl⟩
  · exact ⟨rfl, _, .imm8 rfl, rfl⟩
  · exact ⟨rfl, _, .disp rfl, rfl⟩
  · exact ⟨rfl, _, .imm16 rfl, by simp [wordBytes]⟩
  · exact ⟨rfl, _, .undefined, rfl⟩
  · exact absurd rfl he

theorem Operation.fetch_of_makes {operation : Operation} {slot : Slot} {operands : List Byte} {i : Instr}
    (h : operation.Makes slot.byte operands i) (start : Nat) (rest : List Byte) :
    operation.fetch slot start (operands ++ rest) = .ok slot i rest := by
  cases h with
  | plain | undefined => rfl
  | imm8 h | disp h => exact congrArg (DecodeResult.ok slot · rest) h
  | @imm16 make nn _ h =>
    calc _ = DecodeResult.ok slot (make (mkWord (hiByte nn) (loByte nn))) rest := rfl
      _ = _ := by rw [mkWord_hiByte_loByte, h]

/-- Whatever a slot makes is well formed, and encoded as the slot's bytes and the operands. -/
theorem Slot.Makes.encode_eq {s : Slot} {operands : List Byte} {i : Instr} (h : s.Makes operands i) :
    i.wellFormed = true ∧ encode i = s.prefixBytes ++ operands := by
  have he := slot_encodes s
  unfold Slot.Encodes at he
  unfold Slot.Makes at h
  generalize (lookup s).operation = operation at he h
  cases h with
  | plain => exact ⟨he.1, he.2.trans (List.append_nil _).symm⟩
  | imm8 h | disp h | imm16 h => exact h ▸ he _
  | undefined =>
    obtain ⟨hundef, htable⟩ := he
    exact ⟨hundef, by rw [Slot.prefixBytes, htable]; rfl⟩

/-- No operation but the escape slot's is `.escape`, which makes nothing. -/
theorem operation_eq_escape {s : Slot} (h : (lookup s).operation = .escape) : s = ⟨.base, 0xCB⟩ := by
  have he := slot_encodes s
  rwa [Slot.Encodes, h] at he

theorem Slot.Makes.not_escape {s : Slot} {operands : List Byte} {i : Instr} (h : s.Makes operands i) :
    s ≠ ⟨.base, 0xCB⟩ := by
  rintro rfl
  have hescape : Operation.escape.Makes 0xCB operands i := h
  cases hescape

/-- After a slot's own bytes the decoder fetches the operands of that slot (R91, R92). -/
theorem decode_prefixBytes_append {s : Slot} (hs : s ≠ ⟨.base, 0xCB⟩) (bs : List Byte) :
    decode (s.prefixBytes ++ bs) = decodeOperands s s.prefixBytes.length bs := by
  obtain ⟨table, byte⟩ := s
  cases table with
  | cb => rfl
  | base => exact Machine.decode_base (fun hb => hs (congrArg (Slot.mk .base) hb)) bs

/-- Every byte sequence is empty, the escape byte alone, or starts with the bytes of a slot that the decoder
looks up. -/
theorem decode_input_cases (bs : List Byte) :
    bs = [] ∨ bs = [0xCB] ∨
      ∃ (s : Slot) (bs' : List Byte), s ≠ ⟨.base, 0xCB⟩ ∧ bs = s.prefixBytes ++ bs' := by
  match bs with
  | [] => exact .inl rfl
  | b0 :: bs =>
    by_cases hb : b0 = 0xCB
    · subst hb
      cases bs with
      | nil => exact .inr (.inl rfl)
      | cons op bs => exact .inr (.inr ⟨⟨.cb, op⟩, bs, by simp, rfl⟩)
    · exact .inr (.inr ⟨⟨.base, b0⟩, bs, by simpa using hb, rfl⟩)

/-- The decoder accepts exactly the encodings of what the slots make, with any bytes after them. -/
theorem decode_eq_ok_iff {bs rest : List Byte} {slot : Slot} {i : Instr} :
    decode bs = .ok slot i rest ↔ (∃ operands, slot.Makes operands i) ∧ bs = encode i ++ rest := by
  constructor
  · intro h
    obtain rfl | rfl | ⟨s, bs, hs, rfl⟩ := decode_input_cases bs
    · cases h
    · cases h
    rw [decode_prefixBytes_append hs, decodeOperands_eq_fetch] at h
    obtain ⟨rfl, operands, hmakes, rfl⟩ :=
      Operation.makes_of_fetch (fun he => hs (operation_eq_escape he)) h
    have hencode : encode i = slot.prefixBytes ++ operands := (Slot.Makes.encode_eq hmakes).2
    exact ⟨⟨operands, hmakes⟩, by rw [hencode, List.append_assoc]⟩
  · rintro ⟨⟨operands, hmakes⟩, rfl⟩
    rw [hmakes.encode_eq.2, List.append_assoc, decode_prefixBytes_append hmakes.not_escape,
      decodeOperands_eq_fetch, Operation.fetch_of_makes hmakes]

/-- An encoding that starts with a slot's bytes is made by that slot, if the slot makes the instruction at
all. -/
theorem makes_at {i : Instr} (s : Slot) {operands : List Byte}
    (hslot : Laws.Length.slotOf (encode i) = s) (h : s.Makes operands i) :
    ∃ operands, (Laws.Length.slotOf (encode i)).Makes operands i :=
  ⟨operands, hslot ▸ h⟩

theorem wellFormed_illegal_iff {op : Byte} :
    (Instr.illegal op).wellFormed = true ↔ op ∈ undefinedBytes := by
  simp [Instr.wellFormed]

/-- Every well-formed instruction is made by the slot its encoding starts with: those with an operand by the
operation that reads it, all others by a plain one. -/
theorem makes_of_wellFormed {i : Instr} (h : i.wellFormed = true) :
    ∃ operands, (Laws.Length.slotOf (encode i)).Makes operands i := by
  cases i with
  | prefixCB => cases h
  | illegal op =>
    have hop := wellFormed_illegal_iff.mp h
    fin_cases hop <;> exact ⟨_, .undefined⟩
  | ld_B_n => exact makes_at ⟨.base, 0x06⟩ rfl (.imm8 rfl)
  | ld_C_n => exact makes_at ⟨.base, 0x0E⟩ rfl (.imm8 rfl)
  | stop => exact makes_at ⟨.base, 0x10⟩ rfl (.imm8 rfl)
  | ld_D_n => exact makes_at ⟨.base, 0x16⟩ rfl (.imm8 rfl)
  | ld_E_n => exact makes_at ⟨.base, 0x1E⟩ rfl (.imm8 rfl)
  | ld_H_n => exact makes_at ⟨.base, 0x26⟩ rfl (.imm8 rfl)
  | ld_L_n => exact makes_at ⟨.base, 0x2E⟩ rfl (.imm8 rfl)
  | ld_atHL_n => exact makes_at ⟨.base, 0x36⟩ rfl (.imm8 rfl)
  | ld_A_n => exact makes_at ⟨.base, 0x3E⟩ rfl (.imm8 rfl)
  | add_A_n => exact makes_at ⟨.base, 0xC6⟩ rfl (.imm8 rfl)
  | adc_A_n => exact makes_at ⟨.base, 0xCE⟩ rfl (.imm8 rfl)
  | sub_n => exact makes_at ⟨.base, 0xD6⟩ rfl (.imm8 rfl)
  | sbc_A_n => exact makes_at ⟨.base, 0xDE⟩ rfl (.imm8 rfl)
  | ldh_atN_A => exact makes_at ⟨.base, 0xE0⟩ rfl (.imm8 rfl)
  | and_n => exact makes_at ⟨.base, 0xE6⟩ rfl (.imm8 rfl)
  | xor_n => exact makes_at ⟨.base, 0xEE⟩ rfl (.imm8 rfl)
  | ldh_A_atN => exact makes_at ⟨.base, 0xF0⟩ rfl (.imm8 rfl)
  | or_n => exact makes_at ⟨.base, 0xF6⟩ rfl (.imm8 rfl)
  | cp_n => exact makes_at ⟨.base, 0xFE⟩ rfl (.imm8 rfl)
  | jr_d => exact makes_at ⟨.base, 0x18⟩ rfl (.disp rfl)
  | jr_NZ_d => exact makes_at ⟨.base, 0x20⟩ rfl (.disp rfl)
  | jr_Z_d => exact makes_at ⟨.base, 0x28⟩ rfl (.disp rfl)
  | jr_NC_d => exact makes_at ⟨.base, 0x30⟩ rfl (.disp rfl)
  | jr_C_d => exact makes_at ⟨.base, 0x38⟩ rfl (.disp rfl)
  | add_SP_d => exact makes_at ⟨.base, 0xE8⟩ rfl (.disp rfl)
  | ld_HL_SPplusD => exact makes_at ⟨.base, 0xF8⟩ rfl (.disp rfl)
  | ld_BC_nn => exact makes_at ⟨.base, 0x01⟩ rfl (.imm16 rfl)
  | ld_atNN_SP => exact makes_at ⟨.base, 0x08⟩ rfl (.imm16 rfl)
  | ld_DE_nn => exact makes_at ⟨.base, 0x11⟩ rfl (.imm16 rfl)
  | ld_HL_nn => exact makes_at ⟨.base, 0x21⟩ rfl (.imm16 rfl)
  | ld_SP_nn => exact makes_at ⟨.base, 0x31⟩ rfl (.imm16 rfl)
  | jp_NZ_nn => exact makes_at ⟨.base, 0xC2⟩ rfl (.imm16 rfl)
  | jp_nn => exact makes_at ⟨.base, 0xC3⟩ rfl (.imm16 rfl)
  | call_NZ_nn => exact makes_at ⟨.base, 0xC4⟩ rfl (.imm16 rfl)
  | jp_Z_nn => exact makes_at ⟨.base, 0xCA⟩ rfl (.imm16 rfl)
  | call_Z_nn => exact makes_at ⟨.base, 0xCC⟩ rfl (.imm16 rfl)
  | call_nn => exact makes_at ⟨.base, 0xCD⟩ rfl (.imm16 rfl)
  | jp_NC_nn => exact makes_at ⟨.base, 0xD2⟩ rfl (.imm16 rfl)
  | call_NC_nn => exact makes_at ⟨.base, 0xD4⟩ rfl (.imm16 rfl)
  | jp_C_nn => exact makes_at ⟨.base, 0xDA⟩ rfl (.imm16 rfl)
  | call_C_nn => exact makes_at ⟨.base, 0xDC⟩ rfl (.imm16 rfl)
  | ld_atNN_A => exact makes_at ⟨.base, 0xEA⟩ rfl (.imm16 rfl)
  | ld_A_atNN => exact makes_at ⟨.base, 0xFA⟩ rfl (.imm16 rfl)
  | _ => exact ⟨_, .plain _⟩

/-- Settles O1: the slot its encoding starts with makes the instruction, and the decoder accepts what a
slot makes. -/
theorem decodeOfEncodeIsTheInstruction : Obligations.DecodeOfEncodeIsTheInstruction := fun _ _ hwf =>
  ⟨_, decode_eq_ok_iff.mpr ⟨makes_of_wellFormed hwf, rfl⟩⟩

/-! #### Table `cb`, and the length of an instruction (R62, R76) -/

/-- The form behind the escape byte, by the fields of the opcode byte (R76). -/
def cbForm (op : Byte) : Form :=
  let g := fields op
  let o := Loc8.ofCode g.z
  match g.x.toNat with
  | 0 => .rot (RotOp.ofCode g.y) o
  | 1 => .bit g.y.toFin o
  | 2 => .res g.y.toFin o
  | _ => .set g.y.toFin o

theorem operation_cb_ofFin (n : Fin 256) :
    ∃ i, (lookup ⟨.cb, BitVec.ofFin n⟩).operation = .plain i ∧ i.form = cbForm (BitVec.ofFin n) := by
  fin_cases n <;> exact ⟨_, rfl, rfl⟩

/-- Table `cb` is full of instructions that read no operand, each of its byte's form (R76). -/
theorem operation_cb (b : Byte) :
    ∃ i, (lookup ⟨.cb, b⟩).operation = .plain i ∧ i.form = cbForm b :=
  operation_cb_ofFin b.toFin

theorem makes_cb (b : Byte) : ∃ i, Slot.Makes ⟨.cb, b⟩ [] i ∧ i.form = cbForm b := by
  obtain ⟨i, hplain, hform⟩ := operation_cb b
  refine ⟨i, ?_, hform⟩
  rw [Slot.Makes, hplain]
  exact .plain i

theorem slotLen_cb (b : Byte) : slotLen ⟨.cb, b⟩ = 2 := by
  obtain ⟨i, hplain, -⟩ := operation_cb b
  rw [slotLen_eq_reads, hplain]
  rfl

section

variable (i : Instr) (make : Byte → Instr) (make16 : Word → Instr)

/-- How many operand bytes an operation reads. -/
def Operation.reads (operation : Operation) : Nat :=
  (if operation.readsDisp then 1 else 0) + operation.readsImm

@[simp] theorem reads_plain : (Operation.plain i).reads = 0 := rfl
@[simp] theorem reads_imm8 : (Operation.imm8 make).reads = 1 := rfl
@[simp] theorem reads_disp : (Operation.disp make).reads = 1 := rfl
@[simp] theorem reads_imm16 : (Operation.imm16 make16).reads = 2 := rfl
@[simp] theorem reads_undefined : Operation.undefined.reads = 0 := rfl
@[simp] theorem reads_escape : Operation.escape.reads = 0 := rfl

end

theorem Operation.reads_le_two (operation : Operation) : operation.reads ≤ 2 := by
  cases operation <;> simp

theorem slotLen_eq_reads_operands (s : Slot) :
    slotLen s = s.prefixBytes.length + (lookup s).operation.reads := by
  rw [slotLen_eq_reads, Operation.reads, Nat.add_assoc]

/-- No operation reads more than two operand bytes, and those of table `cb` read none. -/
theorem slotLen_le_maxLen (s : Slot) : slotLen s ≤ maxLen := by
  obtain ⟨table, b⟩ := s
  cases table with
  | cb => exact (slotLen_cb b).trans_le (by decide)
  | base =>
    rw [slotLen_eq_reads_operands]
    exact Nat.add_le_add_left (Operation.reads_le_two _) 1

theorem length_encode_le_maxLen {i : Instr} (hwf : i.wellFormed = true) :
    (encode i).length ≤ maxLen := by
  obtain ⟨slot, hd⟩ := decodeOfEncodeIsTheInstruction i [] hwf
  exact length_encode_of_decode hd ▸ slotLen_le_maxLen slot

/-- What table `cb` makes is encoded as the escape byte and the opcode byte alone. -/
theorem encode_of_makes_cb {b : Byte} {operands : List Byte} {i : Instr}
    (h : Slot.Makes ⟨.cb, b⟩ operands i) : encode i = [0xCB, b] := by
  obtain ⟨j, hplain, -⟩ := operation_cb b
  have hencode := h.encode_eq.2
  rw [Slot.Makes, hplain] at h
  cases h
  exact hencode

/-- Settles O2: the decoder accepts nothing but encodings of what the slots make, and these start with the
slot's bytes. -/
theorem encodeOfDecodeIsTheBytes : Obligations.EncodeOfDecodeIsTheBytes := by
  intro bs slot i rest hd
  obtain ⟨⟨operands, hmakes⟩, rfl⟩ := decode_eq_ok_iff.mp hd
  obtain ⟨hwf, hencode⟩ := hmakes.encode_eq
  refine ⟨hwf, rfl, length_encode_of_decode hd, ?_⟩
  obtain ⟨table, b⟩ := slot
  cases table with
  | base =>
    have hb : b ≠ 0xCB := fun hb => hmakes.not_escape (congrArg (Slot.mk .base) hb)
    exact ⟨by rw [hencode]; rfl, hb⟩
  | cb => exact encode_of_makes_cb hmakes

theorem wellFormed_of_decode {bs rest : List Byte} {slot : Slot} {i : Instr}
    (h : decode bs = .ok slot i rest) : i.wellFormed = true :=
  (encodeOfDecodeIsTheBytes bs slot i rest h).1

/-- Two well-formed instructions of one encoding are one: the decoder reads both from it. -/
theorem encode_injective {i j : Instr} (hi : i.wellFormed = true) (hj : j.wellFormed = true)
    (h : encode i = encode j) : i = j := by
  obtain ⟨slot, hdi⟩ := decodeOfEncodeIsTheInstruction i [] hi
  obtain ⟨slot', hdj⟩ := decodeOfEncodeIsTheInstruction j [] hj
  rw [h, hdj, DecodeResult.ok.injEq] at hdi
  obtain ⟨-, rfl, -⟩ := hdi
  rfl

theorem form_injective {i j : Instr} (hi : i.wellFormed = true) (hj : j.wellFormed = true)
    (h : i.form = j.form) : i = j :=
  encode_injective hi hj (congrArg Form.encode h)

/-! #### Enough bytes, and too few (R253) -/

theorem Operation.fetch_of_enough {operation : Operation} {bs : List Byte}
    (h : operation.reads ≤ bs.length) (slot : Slot) (start : Nat) :
    ∃ i rest, operation.fetch slot start bs = .ok slot i rest := by
  cases operation with
  | plain | undefined | escape => exact ⟨_, _, rfl⟩
  | imm8 | disp =>
    cases bs with
    | nil => simp at h
    | cons => exact ⟨_, _, rfl⟩
  | imm16 =>
    match bs with
    | [] | [_] => simp at h
    | _ :: _ :: _ => exact ⟨_, _, rfl⟩

/-- The byte lacking is the first one after those there are. -/
theorem Operation.fetch_of_too_few {operation : Operation} {bs : List Byte}
    (h : bs.length < operation.reads) (slot : Slot) (start : Nat) :
    operation.fetch slot start bs = .truncated (start + bs.length) := by
  cases operation with
  | plain | undefined | escape => simp at h
  | imm8 | disp =>
    cases bs with
    | nil => rfl
    | cons => simp at h
  | imm16 =>
    match bs with
    | [] | [_] => rfl
    | _ :: _ :: _ => simp at h

/-- The decoder accepts a slot's bytes and at least as many more as its operation reads. -/
theorem decode_of_enough {s : Slot} (hs : s ≠ ⟨.base, 0xCB⟩) {bs : List Byte}
    (h : slotLen s ≤ (s.prefixBytes ++ bs).length) :
    ∃ i rest, decode (s.prefixBytes ++ bs) = .ok s i rest := by
  rw [decode_prefixBytes_append hs, decodeOperands_eq_fetch]
  rw [slotLen_eq_reads_operands, List.length_append] at h
  exact Operation.fetch_of_enough (Nat.le_of_add_le_add_left h) _ _

theorem decode_of_too_few {s : Slot} (hs : s ≠ ⟨.base, 0xCB⟩) {bs : List Byte}
    (h : (s.prefixBytes ++ bs).length < slotLen s) :
    decode (s.prefixBytes ++ bs) = .truncated (s.prefixBytes ++ bs).length := by
  rw [decode_prefixBytes_append hs, decodeOperands_eq_fetch, List.length_append]
  rw [slotLen_eq_reads_operands, List.length_append] at h
  exact Operation.fetch_of_too_few (Nat.lt_of_add_lt_add_left h) _ _

/-- The decoder lacks the first byte past the end, if any, and it never looks past the third. -/
theorem decode_eq_truncated {bs : List Byte} {k : Nat} (h : decode bs = .truncated k) :
    k = bs.length ∧ bs.length < maxLen := by
  obtain rfl | rfl | ⟨s, bs, hs, rfl⟩ := decode_input_cases bs
  · cases h
    exact ⟨rfl, by decide⟩
  · cases h
    exact ⟨rfl, by decide⟩
  · obtain hlen | hlen := Nat.lt_or_ge (s.prefixBytes ++ bs).length (slotLen s)
    · rw [decode_of_too_few hs hlen] at h
      cases h
      exact ⟨rfl, hlen.trans_le (slotLen_le_maxLen s)⟩
    · obtain ⟨i, rest, hd⟩ := decode_of_enough hs hlen
      rw [hd] at h
      cases h

/-- Settles O3: what the decoder cuts off is shorter than three bytes. -/
theorem threeBytesAlwaysDecode : Obligations.ThreeBytesAlwaysDecode := by
  intro b0 b1 b2 rest
  cases hd : decode (b0 :: b1 :: b2 :: rest) with
  | ok slot i left => exact ⟨slot, i, left, rfl⟩
  | truncated k =>
    have hshort := (decode_eq_truncated hd).2
    simp only [List.length_cons, maxLen] at hshort
    omega

/-- Settles O4, by running the decoder on each word. -/
theorem wordsOfEachFamilyDecode : Obligations.WordsOfEachFamilyDecode := by
  unfold Obligations.WordsOfEachFamilyDecode
  decide +kernel

end Sys2Proof

namespace Sys2Proof.Machine

/-! ### Every form in its frame (R15, R16, R27)

The rules of the frame give the frame of every form of the map; the frame says what the form leaves. -/

section

variable {w : Touches} {s t : State} {p : Word}

/-- Into `AF` goes all of `A` and `F` (R212). -/
theorem Frame.setAF (h : Frame w s (t.jumpTo p)) (ha : .a ∈ w.regs) (hf : ∀ g, g ∈ w.flags)
    (hl : w.low = true) (v : Word) : Frame w s ((t.setRP2 .af v).jumpTo p) :=
  { h.setReg ha (hiByte v) with
    flags := fun g hg => absurd (hf g) hg
    low := fun hf => absurd hl (by simp [hf]) }

theorem Frame.writeFlags (h : Frame w s (t.jumpTo p)) {k : FlagWrite} (hk : k.written ⊆ w.flags) :
    Frame w s ((t.withFlags k).jumpTo p) :=
  h.withFlags fun _ hg => FlagWrite.get_eq_none_of_not_written fun hmem => hg (hk hmem)

end

theorem mem_allFlags (g : Flag) : g ∈ allFlags := by cases g <;> decide

/-- The flags a `cb` rotate or shift writes are those of R16, under both values of `ROT_FLAGS`. -/
theorem written_rotateFlags_subset (rf : RotFlags) (op : RotOp) (res : Byte) (c : Bool) :
    (rotateFlags rf op res c).written ⊆ op.flags rf := by
  cases op <;> cases rf <;> exact List.Subset.refl _

theorem written_rotateAFlags_subset (rf : RotFlags) (op : RotAOp) (c : Bool) :
    (rotateAFlags rf op c).written ⊆ op.flags rf := by
  cases op <;> cases rf <;> exact List.Subset.refl _

/-- A popped pair: `AF` with all of its flags, any other without (R211, R212). -/
theorem frame_popPair (q : RP2) (s : State) (v p : Word) :
    Frame (Form.touches s (.pop q)) s ((s.drop16.setRP2 q v).jumpTo p) := by
  have hdrop : Frame (Form.touches s (.pop q)) s (s.drop16.jumpTo p) := (Frame.start _ s p).drop16 rfl
  by_cases haf : q = .af
  · subst haf
    exact hdrop.setAF (List.mem_singleton_self _) mem_allFlags rfl v
  · exact hdrop.setRP2 (fun _ hr => hr) haf v

/-- A taken call is a push and a transfer, an untaken one a transfer (R215). -/
theorem frame_callAbsIf (k : Cond) (nn : Word) (s : State) :
    Frame (Form.touches s (.callIf k nn)) s
      (if s.cond k then (s.push16 (s.pc + 3)).jumpTo nn else s.jumpTo (s.pc + 3)) := by
  cases hk : s.cond k with
  | true =>
    refine (Frame.start _ s nn).push16 ?_ ?_ ?_ _ <;> simp [Form.touches, hk, pushStores]
  | false => exact Frame.start _ s _

/-- A taken return is a pop and a transfer, an untaken one a transfer (R217). -/
theorem frame_returnIf (k : Cond) (s : State) :
    Frame (Form.touches s (.retIf k)) s
      (if s.cond k then s.drop16.jumpTo s.top16 else s.jumpTo (s.pc + 1)) := by
  cases hk : s.cond k with
  | true => exact (Frame.start _ s _).drop16 hk
  | false => exact Frame.start _ s _

/-- Every form of the opcode map completes in every state and stays in its frame. -/
theorem execForm_frame {g : Form} (hu : ∀ op, g ≠ .undefined op) (he : g ≠ .escape) (s : State) :
    ∃ t, execForm g s = .next t ∧ Frame (g.touches s) s t := by
  have start := Frame.start (g.touches s) s
  cases g with
  | undefined op => exact absurd rfl (hu op)
  | escape => exact absurd rfl he
  | nop | jr | jp | jpHL => exact ⟨_, rfl, start _⟩
  | jrIf k d => exact ⟨_, jumpRelIf_eq k d s, start _⟩
  | jpIf k nn => exact ⟨_, jumpAbsIf_eq k nn s, start _⟩
  | callIf k nn => exact ⟨_, callAbsIf_eq k nn s, frame_callAbsIf k nn s⟩
  | retIf k => exact ⟨_, returnIf_eq k s, frame_returnIf k s⟩
  | ldReg | ldFromHL | ldImm | ldAPtr | ldAAbs | ldAHigh | ldAHighC =>
    exact ⟨_, rfl, (start _).setReg (List.mem_singleton_self _) _⟩
  | ldToHL | ldHLImm | stAPtr | stAAbs | stAHigh | stAHighC =>
    exact ⟨_, rfl, (start _).writeMem (List.mem_singleton_self _) _⟩
  | ldPairImm p | inc16 p | dec16 p =>
    exact ⟨_, rfl, (start _).setRP (fun _ hr => hr) (by rintro rfl; rfl) _⟩
  | ldSPHL => exact ⟨_, rfl, (start _).setSP rfl _⟩
  | stSPAbs nn => exact ⟨_, rfl, (start _).writeMem16 (by simp [Form.touches]) (by simp [Form.touches]) _⟩
  | stAStep =>
    exact ⟨_, rfl, ((start _).writeMem (List.mem_singleton_self _) _).setHL
      (by simp [Form.touches]) (by simp [Form.touches]) _⟩
  | ldAStep =>
    exact ⟨_, rfl, ((start _).setReg (r := .a) (by simp [Form.touches]) _).setHL
      (by simp [Form.touches]) (by simp [Form.touches]) _⟩
  | inc8 | dec8 =>
    exact ⟨_, rfl, ((start _).setLoc (fun _ hr => hr) (fun _ ha => ha) _).writeFlags (List.Subset.refl _)⟩
  | rot op o =>
    exact ⟨_, rfl, ((start _).setLoc (fun _ hr => hr) (fun _ ha => ha) _).writeFlags
      (written_rotateFlags_subset _ op _ _)⟩
  | rotA op =>
    exact ⟨_, rfl, ((start _).setReg (List.mem_singleton_self _) _).writeFlags
      (written_rotateAFlags_subset _ op _)⟩
  | res | set => exact ⟨_, rfl, (start _).setLoc (fun _ hr => hr) (fun _ ha => ha) _⟩
  | alu op v => exact ⟨_, rfl, (frame_setReg_alu8 op s _ _ _).writeFlags (List.Subset.refl _)⟩
  | daa | cpl =>
    exact ⟨_, rfl, ((start _).setReg (List.mem_singleton_self _) _).writeFlags (List.Subset.refl _)⟩
  | scf | ccf | bit => exact ⟨_, rfl, (start _).writeFlags (List.Subset.refl _)⟩
  | addHL | ldHLSP =>
    exact ⟨_, rfl, ((start _).setHL (by simp [Form.touches]) (by simp [Form.touches]) _).writeFlags
      (List.Subset.refl _)⟩
  | addSP => exact ⟨_, rfl, ((start _).setSP rfl _).writeFlags (List.Subset.refl _)⟩
  | push | call | rst =>
    exact ⟨_, rfl, (start _).push16 rfl (by simp [Form.touches, pushStores])
      (by simp [Form.touches, pushStores]) _⟩
  | pop q => exact ⟨_, rfl, frame_popPair q s _ _⟩
  | ret => exact ⟨_, rfl, (start _).drop16 rfl⟩
  | reti => exact ⟨_, rfl, ((start _).drop16 rfl).setIME rfl true⟩
  | halt | stop => exact ⟨_, rfl, (start _).setHalted rfl _⟩
  | di | ei => exact ⟨_, rfl, (start _).setIME rfl _⟩

theorem form_of_isOperation {i : Instr} (h : i.isOperation = true) :
    (∀ op, i.form ≠ .undefined op) ∧ i.form ≠ .escape := by
  refine ⟨fun op hform => ?_, fun hform => ?_⟩ <;> simp [Instr.isOperation, hform] at h

/-- Settles O25: what an instruction of the map does is what its form does. -/
theorem everyInstructionCompletesInItsFrame : Obligations.EveryInstructionCompletesInItsFrame := by
  intro i s hop
  obtain ⟨hu, he⟩ := form_of_isOperation hop
  rw [exec_eq_execForm]
  exact execForm_frame hu he s

/-- `POP AF` is a pop, a write of `A` and a masked write of `F`. -/
theorem exec_pop_AF (s : State) :
    exec .pop_AF s = .next ((s.drop16.setRP2 .af s.top16).jumpTo (s.pc + 1)) := rfl

/-- Settles O53: the value popped, split into `A` and `F`, the latter masked (R212). -/
theorem popAFMasksTheFlagsByte : Obligations.PopAFMasksTheFlagsByte :=
  ⟨rfl, fun s => ⟨_, exec_pop_AF s, hiByte_mkWord _ _, congrArg maskFlags (loByte_mkWord _ _),
    (sp_add_two s.sp).symm, rfl, frame_popPair .af s _ _⟩⟩

/-- What an ALU instruction answers, whatever the operation (R150). -/
theorem exec_of_form_alu_pc {i : Instr} {op : AluOp} {v : Src8} (hi : i.form = .alu op v) (s : State) :
    ∃ t, exec i s = .next t ∧ t.pc = s.pc + BitVec.ofNat 16 (aluLen v) := by
  obtain ⟨t, hexec, -, -, -, -, -, hpc, -⟩ := exec_of_form_alu hi (s := s) rfl
  exact ⟨t, hexec, aluLen_eq_length_encode hi ▸ hpc⟩

/-- Settles O40: the operand is the register, the byte at `HL` or the immediate, and the length is by it. -/
theorem aluOperandSelection : Obligations.AluOperandSelection := by
  intro i op v hi
  refine ⟨?reg, ?atHL, ?imm⟩
  case reg =>
    rintro r rfl
    exact ⟨encode_of_form hi, fun s => ⟨rfl, exec_of_form_alu_pc hi s⟩⟩
  case atHL =>
    rintro rfl
    exact ⟨encode_of_form hi, fun s => ⟨rfl, exec_of_form_alu_pc hi s⟩⟩
  case imm =>
    rintro n rfl
    exact ⟨encode_of_form hi, fun s => ⟨rfl, exec_of_form_alu_pc hi s⟩⟩

end Sys2Proof.Machine

namespace Sys2Proof.Machine

/-! ### The fetched bytes against the image (R91 to R95, R253) -/

/-- What stops the reading is the first byte that is out of range. -/
theorem getElem?_length_readable {xs : List (Option Byte)} (h : (readable xs).length < xs.length) :
    xs[(readable xs).length]? = some none := by
  induction xs with
  | nil => cases h
  | cons x xs ih =>
    cases x with
    | none => rfl
    | some b => exact ih (Nat.lt_of_succ_lt_succ h)

/-- Bytes that are all in range are all read. -/
theorem readable_of_reads {bs : List Byte} {xs : List (Option Byte)}
    (h : ∀ (k : Nat) (hk : k < bs.length), xs[k]? = some (some bs[k])) :
    ∃ rest, readable xs = bs ++ rest := by
  induction bs generalizing xs with
  | nil => exact ⟨readable xs, rfl⟩
  | cons b bs ih =>
    cases xs with
    | nil => exact absurd (h 0 (Nat.succ_pos _)) nofun
    | cons x xs =>
      obtain rfl : x = some b := Option.some.inj (h 0 (Nat.succ_pos _))
      obtain ⟨rest, hrest⟩ := ih fun k hk => h (k + 1) (Nat.succ_lt_succ hk)
      exact ⟨rest, congrArg (b :: ·) hrest⟩

/-- The reads of a fetch, in address order (R19, R62). -/
def State.fetches (s : State) : List (Option Byte) :=
  (List.range maxLen).map fun k => s.progRead (s.pc + BitVec.ofNat 16 k)

theorem window_eq_readable (s : State) : s.window = readable s.fetches := by
  have hpc : s.pc + BitVec.ofNat 16 0 = s.pc := BitVec.add_zero s.pc
  simp only [State.fetches, maxLen, List.range_succ, List.range_zero, List.nil_append,
    List.cons_append, List.map_cons, List.map_nil, hpc]
  rfl

theorem getElem?_fetches (s : State) {k : Nat} (hk : k < maxLen) :
    s.fetches[k]? = some (s.progRead (s.pc + BitVec.ofNat 16 k)) := by
  simp [State.fetches, List.getElem?_range hk]

/-- The byte the decoder lacks is out of range. -/
theorem progRead_of_truncated {s : State} {k : Nat} (hd : decode s.window = .truncated k) :
    s.progRead (s.pc + BitVec.ofNat 16 k) = none := by
  obtain ⟨rfl, hlen⟩ := decode_eq_truncated hd
  rw [window_eq_readable] at hlen ⊢
  have hnone := getElem?_length_readable (xs := s.fetches) (by simpa [State.fetches] using hlen)
  rw [getElem?_fetches s hlen] at hnone
  exact Option.some.inj hnone

/-- An instruction whose encoding stands in the image from `pc` on is read whole. -/
theorem window_of_stands {s : State} {bs : List Byte} (hlen : bs.length ≤ maxLen)
    (h : ∀ (k : Nat) (hk : k < bs.length), s.progRead (s.pc + BitVec.ofNat 16 k) = some bs[k]) :
    ∃ rest, s.window = bs ++ rest := by
  rw [window_eq_readable]
  exact readable_of_reads fun k hk => by rw [getElem?_fetches s (hk.trans_le hlen), h k hk]

/-- The first byte of the window is the one at `pc`. -/
theorem progRead_of_window {s : State} {b : Byte} {rest : List Byte} (h : s.window = b :: rest) :
    s.progRead s.pc = some b := by
  cases hread : s.progRead s.pc with
  | none =>
    rw [window_nil hread] at h
    cases h
  | some c =>
    obtain ⟨rest', hwindow⟩ := window_cons hread
    rw [h] at hwindow
    cases hwindow
    rfl

/-! ### Steps -/

theorem step_execute {s : State} {slot : Slot} {i : Instr} {rest : List Byte} (hrun : s.Running)
    (hd : decode s.window = .ok slot i rest) (hn : s.config.isNull slot = false) :
    step s = exec i s := by
  rw [step, runLoop, attempt_execute hrun.1 hrun.2 hd hn]

/-- Settles O13: the loop adds nothing around `exec`. -/
theorem stepRunsTheDecodedInstruction : Obligations.StepRunsTheDecodedInstruction :=
  fun _ _ _ _ => step_execute

/-- Settles O14: the bytes that stand in the image are fetched whole and decode to the instruction. -/
theorem stepRunsTheEncodedInstruction : Obligations.StepRunsTheEncodedInstruction := by
  intro s i hrun hwf hstands hnull
  obtain ⟨rest, hwindow⟩ := window_of_stands (length_encode_le_maxLen hwf) hstands
  obtain ⟨slot, hd⟩ := decodeOfEncodeIsTheInstruction i rest hwf
  exact step_execute hrun (hwindow ▸ hd) (hnull slot)

/-! #### The undefined bytes (R80, R244) -/

section

variable {op : Byte}

/-- An undefined byte is decoded alone. -/
theorem decode_undefined (hop : op ∈ undefinedBytes) (rest : List Byte) :
    decode (op :: rest) = .ok ⟨.base, op⟩ (.illegal op) rest :=
  decode_eq_ok_iff.mpr
    ⟨makes_of_wellFormed (i := .illegal op) (wellFormed_illegal_iff.mpr hop), rfl⟩

/-- `IMPL` does not apply to the undefined bytes. -/
theorem isNull_undefined (hop : op ∈ undefinedBytes) (cfg : Config) :
    cfg.isNull ⟨.base, op⟩ = false := by
  have hslot : (lookup ⟨.base, op⟩).isInstruction = false := by fin_cases hop <;> rfl
  rw [Config.isNull, hslot, Bool.and_false]

theorem exec_illegal (op : Byte) (s : State) :
    exec (.illegal op) s = .next (s.raise (.unrecognizedOpcode s.pc op)) := rfl

theorem attempt_undefined {s : State} (hrun : s.Running) (hop : op ∈ undefinedBytes)
    (hread : s.progRead s.pc = some op) : attempt s = .execute ⟨.base, op⟩ (.illegal op) := by
  obtain ⟨rest, hwindow⟩ := window_cons hread
  exact attempt_execute hrun.1 hrun.2 (hwindow ▸ decode_undefined hop rest) (isNull_undefined hop _)

theorem step_undefined {s : State} (hrun : s.Running) (hop : op ∈ undefinedBytes)
    (hread : s.progRead s.pc = some op) :
    step s = .next (s.raise (.unrecognizedOpcode s.pc op)) := by
  rw [step, runLoop, attempt_undefined hrun hop hread]
  exact exec_illegal op s

theorem runInstruction_undefined {s : State} (hrun : s.Running) (hop : op ∈ undefinedBytes)
    (hread : s.progRead s.pc = some op) :
    runInstruction s =
      (.fault (.unrecognizedOpcode s.pc op), s.raise (.unrecognizedOpcode s.pc op)) := by
  rw [runInstruction, attempt_undefined hrun hop hread]
  rfl

end

/-- Settles O59: each byte decodes alone, and its meaning raises the fault and nothing else. -/
theorem undefinedBytesFault : Obligations.UndefinedBytesFault := fun op hop =>
  ⟨decode_undefined hop, exec_illegal op, fun _ hrun hread =>
    ⟨step_undefined hrun hop hread, runInstruction_undefined hrun hop hread⟩⟩

/-- Settles O15: the decoder stops at the first byte that cannot be read; an undefined byte is the one
fault that needs no other byte. -/
theorem firstFetchFaultIsRaised : Obligations.FirstFetchFaultIsRaised := by
  intro s hrun
  have base {b : Byte} (hb : b ≠ 0xCB) : Slot.mk .base b ≠ ⟨.base, 0xCB⟩ := by simpa using hb
  refine ⟨fun h0 => ?first, fun h0 h1 => ?escaped, fun b hb h0 => ?undefined,
    fun b hb h0 hlen h1 => ?second, fun b c hb h0 hlen h1 h2 => ?third⟩
  case first =>
    have hd : decode s.window = .truncated 0 := by rw [window_nil h0]; rfl
    rw [step_truncated hrun.1 hrun.2 hd, BitVec.add_zero]
    rfl
  case escaped =>
    have hd : decode s.window = .truncated 1 := by rw [window_one h0 h1]; rfl
    exact step_truncated hrun.1 hrun.2 hd
  case undefined => exact step_undefined hrun hb h0
  case second =>
    have hd : decode s.window = .truncated 1 := by
      rw [window_one h0 h1]
      exact decode_of_too_few (base hb) (bs := []) hlen
    exact step_truncated hrun.1 hrun.2 hd
  case third =>
    have hd : decode s.window = .truncated 2 := by
      rw [window_two h0 h1 h2]
      exact decode_of_too_few (base hb) (bs := [c]) (hlen ▸ Nat.lt_succ_self 2)
    exact step_truncated hrun.1 hrun.2 hd

/-! #### The escape slot (R92, R245) -/

theorem runCB_eq_execForm (op : Byte) (s : State) : runCB op s = execForm (cbForm op) s := by
  unfold runCB cbForm
  dsimp only
  rcases (fields op).x.toNat with _ | _ | _ | _ <;> rfl

theorem exec_prefixCB (s : State) : exec .prefixCB s = escapeSlot s := rfl

theorem exec_prefixCB_of_read {s : State} {op : Byte} (h : s.progRead (s.pc + 1) = some op) :
    exec .prefixCB s = runCB op s := by
  rw [exec_prefixCB, escapeSlot, h]

theorem exec_prefixCB_of_no_read {s : State} (h : s.progRead (s.pc + 1) = none) :
    exec .prefixCB s = .next (s.raise (.outOfBoundsProgramRead (s.pc + 1) s.pc)) := by
  rw [exec_prefixCB, escapeSlot, h]

/-- Settles O60: whatever is decoded is well formed, which the escape slot's instruction is not; its meaning
is that of the instruction table `cb` makes of the next byte. -/
theorem escapeSlotReadsTheTrueOpcode : Obligations.EscapeSlotReadsTheTrueOpcode := by
  refine ⟨fun bs slot rest hd => ?never, fun s op hread => ?meaning,
    fun _ => exec_prefixCB_of_no_read⟩
  case never => exact absurd (wellFormed_of_decode hd) nofun
  case meaning =>
    obtain ⟨i, hmakes, hform⟩ := makes_cb op
    obtain ⟨t, hexec, -⟩ := exec_counts_or_raises i s
    refine ⟨i, t, decode_eq_ok_iff.mpr ⟨⟨_, hmakes⟩, ?_⟩, ?_, hexec⟩
    · rw [encode_of_makes_cb hmakes]
      rfl
    · rw [exec_prefixCB_of_read hread, runCB_eq_execForm, ← exec_of_form hform, hexec]

end Sys2Proof.Machine

namespace Sys2Proof.Machine

/-! ### What a step that goes on has done

A step that answers a next state was idle, or raised one of two faults, or ran an instruction of the map. What
every step keeps is read off these cases. -/

/-- The two terms that are no instruction of the map (R80, R245). -/
theorem eq_illegal_or_prefixCB {i : Instr} (hop : ¬ i.isOperation = true) :
    (∃ op, i = .illegal op) ∨ i = .prefixCB := by
  cases i with
  | illegal op => exact .inl ⟨op, rfl⟩
  | prefixCB => exact .inr rfl
  | _ => exact absurd rfl hop

/-- What a step from `s` that answers the next state `t` has done. -/
inductive StepCase (s t : State) : Prop where
  /-- halted or stopped (R256) -/
  | idle (hf : s.fault = none) (hh : s.halted ≠ .running) (ht : t = s)
  /-- a fetch is out of range (R253) -/
  | fetchFault (k : Nat) (hrun : s.Running) (hread : s.progRead (s.pc + BitVec.ofNat 16 k) = none)
    (ht : t = s.raise (.outOfBoundsProgramRead (s.pc + BitVec.ofNat 16 k) s.pc))
  /-- the byte at `pc` is undefined (R244) -/
  | undefinedByte (op : Byte) (hrun : s.Running) (hop : op ∈ undefinedBytes)
    (hread : s.progRead s.pc = some op) (ht : t = s.raise (.unrecognizedOpcode s.pc op))
  /-- an instruction of the map is run (R96) -/
  | operation (slot : Slot) (i : Instr) (rest : List Byte) (hrun : s.Running)
    (hd : decode s.window = .ok slot i rest) (hop : i.isOperation = true) (hexec : exec i s = .next t)

theorem step_cases {s t : State} (h : step s = .next t) : StepCase s t := by
  obtain ⟨r, _, ha⟩ | ⟨hf, hh, ha⟩ | ⟨hf, hh, ⟨k, hd, ha⟩ | ⟨slot, _, _, _, _, ha⟩ |
    ⟨slot, i, rest, hd, _, ha⟩⟩ := attempt_cases s
  all_goals rw [step, runLoop, ha] at h
  · cases h
  · cases h
    exact .idle hf hh rfl
  · cases h
    exact .fetchFault k ⟨hf, hh⟩ (progRead_of_truncated hd) rfl
  · cases h
  · by_cases hop : i.isOperation = true
    · exact .operation slot i rest ⟨hf, hh⟩ hd hop h
    · obtain ⟨hwf, hbytes, -⟩ := encodeOfDecodeIsTheBytes _ _ _ _ hd
      obtain ⟨op, rfl⟩ | rfl := eq_illegal_or_prefixCB hop
      case inr => cases hwf
      have hread : s.progRead s.pc = some op := progRead_of_window hbytes.symm
      refine .undefinedByte op ⟨hf, hh⟩ (wellFormed_illegal_iff.mp hwf) hread ?_
      cases h
      rfl

/-- An instruction of the map that goes on from `s` to `t` stays in its frame. -/
theorem frame_of_exec {i : Instr} {s t : State} (hop : i.isOperation = true)
    (hexec : exec i s = .next t) : Frame (i.form.touches s) s t := by
  obtain ⟨u, hu, hframe⟩ := everyInstructionCompletesInItsFrame i s hop
  obtain rfl : u = t := Host.Outcome.next.inj (hu.symm.trans hexec)
  exact hframe

/-! #### Image and parameters (R26, R43) -/

theorem cbForm_ne (op : Byte) : (∀ b, cbForm op ≠ .undefined b) ∧ cbForm op ≠ .escape := by
  unfold cbForm
  dsimp only
  rcases (fields op).x.toNat with _ | _ | _ | _ <;> exact ⟨nofun, nofun⟩

theorem escapeSlot_frame_or_raises (s : State) :
    ∃ t, escapeSlot s = .next t ∧ ((∃ w, Frame w s t) ∨ ∃ r, t = s.raise r) := by
  unfold escapeSlot
  split
  · exact ⟨_, rfl, .inr ⟨_, rfl⟩⟩
  · rename_i op _
    obtain ⟨hu, he⟩ := cbForm_ne op
    obtain ⟨t, hexec, hframe⟩ := execForm_frame hu he s
    exact ⟨t, (runCB_eq_execForm op s).trans hexec, .inl ⟨_, hframe⟩⟩

/-- Every meaning stays in some frame or raises a fault, the escape slot's included. -/
theorem exec_frame_or_raises (i : Instr) (s : State) :
    ∃ t, exec i s = .next t ∧ ((∃ w, Frame w s t) ∨ ∃ r, t = s.raise r) := by
  by_cases hop : i.isOperation = true
  · obtain ⟨t, hexec, hframe⟩ := everyInstructionCompletesInItsFrame i s hop
    exact ⟨t, hexec, .inl ⟨_, hframe⟩⟩
  · obtain ⟨op, rfl⟩ | rfl := eq_illegal_or_prefixCB hop
    · exact ⟨_, exec_illegal op s, .inr ⟨_, rfl⟩⟩
    · exact escapeSlot_frame_or_raises s

theorem exec_keeps_image_and_config {i : Instr} {s t : State} (hexec : exec i s = .next t) :
    t.image = s.image ∧ t.config = s.config := by
  obtain ⟨u, hu, hcases⟩ := exec_frame_or_raises i s
  obtain rfl : u = t := Host.Outcome.next.inj (hu.symm.trans hexec)
  obtain ⟨w, hframe⟩ | ⟨r, rfl⟩ := hcases
  · exact ⟨hframe.image, hframe.config⟩
  · exact ⟨rfl, rfl⟩

/-- Settles O21: every frame leaves the image and the parameters, and so does a fault. -/
theorem imageAndParametersNeverChange : Obligations.ImageAndParametersNeverChange := by
  refine ⟨fun _ _ _ => exec_keeps_image_and_config, fun s t h => ?_⟩
  cases step_cases h with
  | idle _ _ ht => exact ht ▸ ⟨rfl, rfl⟩
  | fetchFault _ _ _ ht => exact ht ▸ ⟨rfl, rfl⟩
  | undefinedByte _ _ _ _ ht => exact ht ▸ ⟨rfl, rfl⟩
  | operation _ _ _ _ _ _ hexec => exact exec_keeps_image_and_config hexec

/-! #### `ime` and `halted` (R23, R24) -/

section

variable {g : Form} {s : State}

theorem form_of_touches_ime (h : (g.touches s).ime = true) : g = .di ∨ g = .ei ∨ g = .reti := by
  cases g <;> simp [Form.touches] at h ⊢

theorem form_of_touches_halted (h : (g.touches s).halted = true) : g = .halt ∨ ∃ n, g = .stop n := by
  cases g <;> simp [Form.touches] at h ⊢

theorem form_of_touches_low (h : (g.touches s).low = true) : g = .pop .af := by
  cases g <;> simp [Form.touches] at h ⊢
  exact h

end

/-- Only `DI`, `EI` and `RETI` have a form that may write `ime`. -/
theorem instr_of_changed_ime {i : Instr} {s t : State} (hwf : i.wellFormed = true)
    (hframe : Frame (i.form.touches s) s t) (h : t.ime ≠ s.ime) : i = .di ∨ i = .ei ∨ i = .reti := by
  have htouch : (i.form.touches s).ime = true := by
    by_contra hno
    exact h (hframe.ime (Bool.eq_false_iff.mpr hno))
  obtain hform | hform | hform := form_of_touches_ime htouch
  · exact .inl (form_injective hwf rfl hform)
  · exact .inr (.inl (form_injective hwf rfl hform))
  · exact .inr (.inr (form_injective hwf rfl hform))

theorem instr_of_changed_halted {i : Instr} {s t : State} (hwf : i.wellFormed = true)
    (hframe : Frame (i.form.touches s) s t) (h : t.halted ≠ s.halted) :
    i = .halt ∨ ∃ n, i = .stop n := by
  have htouch : (i.form.touches s).halted = true := by
    by_contra hno
    exact h (hframe.halted (Bool.eq_false_iff.mpr hno))
  obtain hform | ⟨n, hform⟩ := form_of_touches_halted htouch
  · exact .inl (form_injective hwf rfl hform)
  · exact .inr ⟨n, form_injective hwf rfl hform⟩

/-- Settles O23: idle steps and faults leave both, and what an instruction changes is in its frame. -/
theorem onlyTheirInstructionsChangeImeAndHalted :
    Obligations.OnlyTheirInstructionsChangeImeAndHalted := by
  intro s t h
  cases step_cases h with
  | idle _ _ ht => exact ht ▸ ⟨absurd rfl, absurd rfl, id⟩
  | fetchFault _ _ _ ht => exact ht ▸ ⟨absurd rfl, absurd rfl, id⟩
  | undefinedByte _ _ _ _ ht => exact ht ▸ ⟨absurd rfl, absurd rfl, id⟩
  | operation slot i rest hrun hd hop hexec =>
    have hframe := frame_of_exec hop hexec
    have hwf := wellFormed_of_decode hd
    exact ⟨fun hime => ⟨slot, i, rest, hd, instr_of_changed_ime hwf hframe hime⟩,
      fun hhalted => ⟨slot, i, rest, hd, instr_of_changed_halted hwf hframe hhalted⟩,
      fun _ => hrun.2⟩

/-! #### The invariant (R15, R254) -/

/-- `POP AF` masks what it writes to bits 3 to 0 of `F` (R212); nothing else writes them (R15). -/
theorem flagLow_of_exec {i : Instr} {s t : State} (hop : i.isOperation = true)
    (hexec : exec i s = .next t) (h : flagLow s.f = 0) : flagLow t.f = 0 := by
  by_cases htouch : (i.form.touches s).low = true
  · have hpop := exec_of_form_pop (form_of_touches_low htouch) s
    obtain rfl := Host.Outcome.next.inj (hpop.symm.trans hexec)
    exact flagLow_maskFlags _
  · rw [(frame_of_exec hop hexec).low (Bool.eq_false_iff.mpr htouch), h]

theorem wf_jumpTo {s : State} (target : Word) (h : Memory.wf s.mem = true) :
    Memory.wf (s.jumpTo target).mem = true := h

/-- Every form of the map writes memory by the operations that keep its canonical form, or not at all. -/
theorem execForm_keeps_wf {g : Form} (hu : ∀ op, g ≠ .undefined op) (he : g ≠ .escape) {s : State}
    (h : Memory.wf s.mem = true) : ∃ t, execForm g s = .next t ∧ Memory.wf t.mem = true := by
  cases g with
  | undefined op => exact absurd rfl (hu op)
  | escape => exact absurd rfl he
  | ldToHL | ldHLImm | stAPtr | stAAbs | stAHigh | stAHighC | stAStep =>
    exact ⟨_, rfl, wf_writeMem _ _ h⟩
  | stSPAbs => exact ⟨_, rfl, wf_writeMem16 _ _ h⟩
  | inc8 | dec8 | rot | res | set => exact ⟨_, rfl, wf_setLoc _ _ h⟩
  | push | call | rst => exact ⟨_, rfl, wf_jumpTo _ (wf_push16 _ h)⟩
  | callIf k nn =>
    refine ⟨_, callAbsIf_eq k nn s, ?_⟩
    cases s.cond k with
    | true => exact wf_jumpTo _ (wf_push16 _ h)
    | false => exact h
  | retIf k => exact ⟨_, returnIf_eq k s, by cases s.cond k <;> exact h⟩
  | jrIf k d => exact ⟨_, jumpRelIf_eq k d s, h⟩
  | jpIf k nn => exact ⟨_, jumpAbsIf_eq k nn s, h⟩
  | pop q => exact ⟨(s.drop16.setRP2 q s.top16).advance 1, rfl, by simpa using h⟩
  | _ => exact ⟨_, rfl, by simpa using h⟩

theorem wf_of_exec {i : Instr} {s t : State} (hop : i.isOperation = true)
    (hexec : exec i s = .next t) (h : Memory.wf s.mem = true) : Memory.wf t.mem = true := by
  obtain ⟨hu, he⟩ := form_of_isOperation hop
  obtain ⟨u, hu, hwf⟩ := execForm_keeps_wf hu he h
  rw [← exec_eq_execForm] at hu
  obtain rfl : u = t := Host.Outcome.next.inj (hu.symm.trans hexec)
  exact hwf

theorem latchSound_of_no_fault {s : State} (h : s.fault = none) : latchSound s = true := by
  rw [latchSound, h]

/-- Settles O9: each fault is raised where its record says, and an instruction that runs latches none. -/
theorem stepKeepsTheInvariant : Obligations.StepKeepsTheInvariant := by
  intro s t ⟨hlow, hwf, hlatch⟩ h
  cases step_cases h with
  | idle _ _ ht => exact ht ▸ ⟨hlow, hwf, hlatch⟩
  | fetchFault k _ hread ht =>
    have hsound : latchSound t = true := by
      subst ht
      simpa [latchSound, State.progRead] using hread
    exact ⟨ht ▸ hlow, ht ▸ hwf, hsound⟩
  | undefinedByte op _ hop hread ht =>
    have hsound : latchSound t = true := by
      subst ht
      simpa [latchSound, State.progRead, hop] using hread
    exact ⟨ht ▸ hlow, ht ▸ hwf, hsound⟩
  | operation slot i rest hrun hd hop hexec =>
    have hfault : t.fault = none := (frame_of_exec hop hexec).fault.trans hrun.1
    exact ⟨flagLow_of_exec hop hexec hlow, wf_of_exec hop hexec hwf, latchSound_of_no_fault hfault⟩

/-- The two halves of the flags byte after reset (R280). -/
theorem resetFlags_halves (fHigh : BitVec 4) :
    (fHigh ++ 0#4).extractLsb' 4 4 = fHigh ∧ (fHigh ++ 0#4).extractLsb' 0 4 = 0 := by
  revert fHigh
  decide

/-- Settles O8: after reset memory is empty, no fault is latched, and the low half of `F` is zero. -/
theorem invariantHoldsAtReset : Obligations.InvariantHoldsAtReset := fun _ r =>
  ⟨(resetFlags_halves r.fHigh).2, rfl, rfl⟩

/-! #### The tables (R82, R255) -/

theorem tableFault_eq_none : tableFault = none := by
  have hfind : allSlots.find? (fun s => !(lookup s).consistent) = none :=
    List.find?_eq_none.mpr fun s _ => by simp [lookup_consistent s]
  rw [tableFault, hfind]
  rfl

/-- Settles O6: every descriptor is consistent, and no case of a step raises the table's fault. -/
theorem noTableEntryIsMalformed : Obligations.NoTableEntryIsMalformed := by
  refine ⟨lookup_flags_eq_reads, tableFault_eq_none, fun s t slot h => ?_⟩
  cases step_cases h with
  | idle hf _ ht => simp [ht, hf]
  | fetchFault _ _ _ ht => simp [ht]
  | undefinedByte _ _ _ _ ht => simp [ht]
  | operation _ _ _ hrun _ hop hexec => simp [(frame_of_exec hop hexec).fault, hrun.1]

end Sys2Proof.Machine

namespace Sys2Proof.Machine

/-! ### Steps in sequence, and the host (R103, R250, R254, R256) -/

/-- Settles O16: of the steps that go on only one that raises leaves a fault latched. -/
theorem faultsArePrecise : Obligations.FaultsArePrecise := by
  intro s t r hf hstep htf
  obtain ⟨_, hr, _⟩ | ⟨_, _, hs, _⟩ | ⟨_, ⟨r', hs, hhost⟩ | ⟨_, hs, _⟩ | ⟨u, hs, hu, _⟩⟩ :=
    step_runInstruction_cases s
  case inl => exact absurd (hf.symm.trans hr) nofun
  all_goals
    rw [hs] at hstep
    cases hstep
  case inr.inl => exact absurd (hf.symm.trans htf) nofun
  case inr.inr.inl =>
    obtain rfl : r' = r := Option.some.inj htf
    exact ⟨rfl, hhost⟩
  case inr.inr.inr.inr => exact absurd (hu.symm.trans htf) nofun

/-- Settles O24: nothing is refused where no slot is null, and every meaning answers a next state. -/
theorem everyStepGoesOnUnderImplAll : Obligations.EveryStepGoesOnUnderImplAll := by
  intro s hf himpl
  obtain ⟨r, hr, _⟩ | ⟨_, _, ha⟩ | ⟨_, _, ⟨k, _, ha⟩ | ⟨slot, _, _, _, hn, _⟩ | ⟨_, i, _, _, _, ha⟩⟩ :=
    attempt_cases s
  case inl => exact absurd (hf.symm.trans hr) nofun
  case inr.inr.inr.inl => exact absurd (hn.symm.trans (isNull_of_implAll himpl slot)) nofun
  all_goals rw [step, runLoop, ha]
  case inr.inl => exact ⟨_, rfl⟩
  case inr.inr.inl => exact ⟨_, rfl⟩
  case inr.inr.inr.inr =>
    obtain ⟨t, hexec, -⟩ := exec_counts_or_raises i s
    exact ⟨t, hexec⟩

/-! #### Runs -/

theorem core_run_of_next {s t : State} (h : step s = .next t) (n : Nat) :
    core.run (n + 1) s = core.run n t := by
  have hcore : core.step s = .next t := h
  simp only [Host.Core.run, hcore]

theorem core_run_of_fault {s : State} {r : Fault} (h : step s = .fault r) (n : Nat) :
    core.run (n + 1) s = .fault r := by
  have hcore : core.step s = .fault r := h
  simp only [Host.Core.run, hcore]

theorem core_run_of_refused {s : State} {r : Refusal} (h : step s = .refused r) (n : Nat) :
    core.run (n + 1) s = .refused r := by
  have hcore : core.step s = .refused r := h
  simp only [Host.Core.run, hcore]

/-- A run that goes on went on at its first step. -/
theorem step_of_core_run {n : Nat} {s t : State} (h : core.run (n + 1) s = .next t) :
    ∃ u, step s = .next u ∧ core.run n u = .next t := by
  cases hstep : step s with
  | next u => exact ⟨u, rfl, core_run_of_next hstep n ▸ h⟩
  | fault r => exact absurd ((core_run_of_fault hstep n).symm.trans h) nofun
  | refused r => exact absurd ((core_run_of_refused hstep n).symm.trans h) nofun

theorem core_run_of_idle {s : State} (h : step s = .next s) (n : Nat) : core.run n s = .next s := by
  induction n with
  | zero => rfl
  | succ n ih => rw [core_run_of_next h, ih]

theorem step_of_latched {s : State} {r : Fault} (h : s.fault = some r) :
    step s = .fault r ∧ runInstruction s = (.fault r, s) := by
  obtain ⟨r', hr, hs, hhost⟩ | ⟨hf, _⟩ | ⟨hrun, _⟩ := step_runInstruction_cases s
  · obtain rfl : r' = r := Option.some.inj (hr.symm.trans h)
    exact ⟨hs, hhost⟩
  · exact absurd (hf.symm.trans h) nofun
  · exact absurd (hrun.1.symm.trans h) nofun

theorem step_of_idle {s : State} (hf : s.fault = none) (hh : s.halted ≠ .running) :
    step s = .next s := by
  obtain ⟨r, hr, _⟩ | ⟨_, _, hs, _⟩ | ⟨hrun, _⟩ := step_runInstruction_cases s
  · exact absurd (hf.symm.trans hr) nofun
  · exact hs
  · exact absurd hrun.2 hh

/-- Settles O17: a latched machine's step is a fault, an idle one's its own state, so any run is. -/
theorem latchedStepsDoNothing : Obligations.LatchedStepsDoNothing := by
  refine ⟨fun s r hf => ?latched, fun s hf hh => ?halted, fun s hf hh => ?stopped,
    fun _ _ => ⟨rfl, rfl⟩, fun _ _ => ⟨rfl, rfl⟩⟩
  case latched =>
    obtain ⟨hs, hhost⟩ := step_of_latched hf
    exact ⟨hhost, core_run_of_fault hs⟩
  case halted =>
    exact ⟨runInstruction_of_halted hf hh, core_run_of_idle (step_of_idle hf (by simp [hh]))⟩
  case stopped =>
    exact ⟨runInstruction_of_stopped hf hh, core_run_of_idle (step_of_idle hf (by simp [hh]))⟩

/-! #### Frames of instructions (R103) -/

/-- A step that leaves the machine running was asked of a running one, and its status is `Ok`. -/
theorem runInstruction_of_step_running {s t : State} (h : step s = .next t) (ht : t.Running) :
    s.Running ∧ runInstruction s = (.ok, t) := by
  obtain ⟨_, _, hs, _⟩ | ⟨_, hh, hs, _⟩ | ⟨hrun, ⟨r, hs, _⟩ | ⟨_, hs, _⟩ | ⟨u, hs, _, _, hhost⟩⟩ :=
    step_runInstruction_cases s
  all_goals
    rw [hs] at h
    cases h
  case inr.inl => exact absurd ht.2 hh
  case inr.inr.inl => exact absurd ht.1 nofun
  case inr.inr.inr.inr => exact ⟨hrun, hhost⟩

/-- A run that ends running was running from the start. -/
theorem running_of_core_run {n : Nat} {s t : State} (h : core.run n s = .next t) (ht : t.Running) :
    s.Running := by
  induction n generalizing s with
  | zero =>
    obtain rfl : s = t := Host.Outcome.next.inj h
    exact ht
  | succ n ih =>
    obtain ⟨u, hstep, hrest⟩ := step_of_core_run h
    exact (runInstruction_of_step_running hstep (ih hrest)).1

theorem runInstructions_one (s : State) : runInstructions 1 s = runInstruction s := by
  simp [runInstructions]

theorem runInstructions_of_ok {s t : State} (h : runInstruction s = (.ok, t)) (n : Nat) :
    runInstructions (n + 2) s = runInstructions (n + 1) t := by
  rw [runInstructions, h]
  rfl

theorem runInstructions_of_endsFrame {s : State} (h : (runInstruction s).1.endsFrame = true) (n : Nat) :
    runInstructions (n + 1) s = runInstruction s := by
  simp [runInstructions, h]

theorem runInstructions_of_core_run {n : Nat} {s t : State} (h : core.run (n + 1) s = .next t)
    (ht : t.Running) : runInstructions (n + 1) s = (.ok, t) := by
  induction n generalizing s with
  | zero =>
    obtain ⟨u, hstep, hrest⟩ := step_of_core_run h
    obtain rfl : u = t := Host.Outcome.next.inj hrest
    rw [runInstructions_one, (runInstruction_of_step_running hstep ht).2]
  | succ n ih =>
    obtain ⟨u, hstep, hrest⟩ := step_of_core_run h
    have hu : u.Running := running_of_core_run hrest ht
    rw [runInstructions_of_ok (runInstruction_of_step_running hstep hu).2, ih hrest]

/-- A machine that is not running ends the frame at once. -/
theorem endsFrame_of_not_running {s : State} (h : ¬ s.Running) :
    (runInstruction s).1.endsFrame = true := by
  obtain ⟨r, _, _, hhost⟩ | ⟨_, hh, _, hhost⟩ | ⟨hrun, _⟩ := step_runInstruction_cases s
  · rw [hhost]
    rfl
  · rw [hhost]
    obtain hidle | hidle := idleStatus_of_not_running hh <;> rw [hidle] <;> rfl
  · exact absurd hrun h

/-- Settles O26, by induction on the number of steps. -/
theorem aFrameIsItsSteps : Obligations.AFrameIsItsSteps :=
  ⟨fun _ _ _ => runInstructions_of_core_run,
    fun n _ h => runInstructions_of_endsFrame (endsFrame_of_not_running h) n, fun _ => rfl⟩

/-! ### Reset, program load, memory (R42, R44, R46, R280, R283) -/

/-- Settles O7: the fields of the reset state, the flags byte half by half. -/
theorem resetState : Obligations.ResetState := by
  rintro cfg r _ rfl
  obtain ⟨hhigh, hlow⟩ := resetFlags_halves r.fHigh
  exact ⟨fun _ => rfl, rfl, rfl, rfl, rfl, rfl, rfl, rfl, rfl, hhigh, hlow, rfl, rfl, rfl, rfl, rfl,
    rfl, rfl⟩

/-- Settles O10: the load writes four fields. -/
theorem loadProgramEffect : Obligations.LoadProgramEffect := by
  rintro s _ bytes rfl
  refine ⟨rfl, rfl, rfl, rfl, fun r => ?_, rfl, rfl, rfl, rfl, rfl, rfl⟩
  cases r <;> rfl

/-- Settles O11, from the laws of the memory list. -/
theorem readAnswersTheLatestWrite : Obligations.ReadAnswersTheLatestWrite :=
  ⟨readMem_writeMem, fun _ _ _ => rfl, fun _ a v h => wf_writeMem a v h⟩

theorem readProgram16_of_reads {s : State} {a : Word} {lo hi : Byte} (hlo : s.progRead a = some lo)
    (hhi : s.progRead (a + 1) = some hi) : s.readProgram16 a = some (mkWord hi lo) := by
  rw [State.readProgram16, hlo, hhi]

/-- Settles O12: a read is a lookup in the image, and the word is merged low byte first. -/
theorem programReads : Obligations.ProgramReads := fun _ _ =>
  ⟨fun h => List.getElem?_eq_none h, fun h => List.getElem?_eq_getElem h,
    fun lo hi hlo hhi => ⟨mkWord hi lo, readProgram16_of_reads hlo hhi, mkWord_toNat hi lo⟩⟩

end Sys2Proof.Machine

namespace Sys2Proof.Machine

/-! ### Code and data are separate (R40, R43, R55)

Replacing the image commutes with every operation on the state, and no operand is read from it; so it commutes
with every form of the map. -/

/-- The state with another image. -/
def State.withImage (s : State) (image : List Byte) : State := { s with image := image }

section

variable (s : State) (im : List Byte)

@[simp] theorem withImage_a : (s.withImage im).a = s.a := rfl
@[simp] theorem withImage_config : (s.withImage im).config = s.config := rfl
@[simp] theorem withImage_hl : (s.withImage im).hl = s.hl := rfl
@[simp] theorem withImage_readMem (a : Word) : (s.withImage im).readMem a = s.readMem a := rfl
@[simp] theorem withImage_cond (k : Cond) : (s.withImage im).cond k = s.cond k := rfl
@[simp] theorem withImage_carry : (s.withImage im).carry = s.carry := rfl
@[simp] theorem withImage_top16 : (s.withImage im).top16 = s.top16 := rfl

@[simp] theorem withImage_reg (r : Reg8) : (s.withImage im).reg r = s.reg r := by cases r <;> rfl

@[simp] theorem withImage_loc (o : Loc8) : (s.withImage im).loc o = s.loc o := by
  cases o with
  | reg r => exact withImage_reg s im r
  | atHL => rfl

@[simp] theorem withImage_src (v : Src8) : (s.withImage im).src v = s.src v := by
  cases v with
  | loc o => exact withImage_loc s im o
  | imm n => rfl

@[simp] theorem withImage_rp (p : RP) : (s.withImage im).rp p = s.rp p := by cases p <;> rfl
@[simp] theorem withImage_rp2 (q : RP2) : (s.withImage im).rp2 q = s.rp2 q := by cases q <;> rfl
@[simp] theorem withImage_ptr (q : PtrPair) : (s.withImage im).ptr q = s.ptr q := by cases q <;> rfl

@[simp] theorem withImage_setReg (r : Reg8) (v : Byte) :
    (s.withImage im).setReg r v = (s.setReg r v).withImage im := by cases r <;> rfl

@[simp] theorem withImage_setLoc (o : Loc8) (v : Byte) :
    (s.withImage im).setLoc o v = (s.setLoc o v).withImage im := by
  cases o with
  | reg r => exact withImage_setReg s im r v
  | atHL => rfl

@[simp] theorem withImage_setRP (p : RP) (v : Word) :
    (s.withImage im).setRP p v = (s.setRP p v).withImage im := by cases p <;> rfl

@[simp] theorem withImage_setRP2 (q : RP2) (v : Word) :
    (s.withImage im).setRP2 q v = (s.setRP2 q v).withImage im := by cases q <;> rfl

@[simp] theorem withImage_setHL (v : Word) :
    (s.withImage im).setHL v = (s.setHL v).withImage im := rfl
@[simp] theorem withImage_writeMem (a : Word) (v : Byte) :
    (s.withImage im).writeMem a v = (s.writeMem a v).withImage im := rfl
@[simp] theorem withImage_push16 (v : Word) :
    (s.withImage im).push16 v = (s.push16 v).withImage im := rfl
@[simp] theorem withImage_drop16 : (s.withImage im).drop16 = s.drop16.withImage im := rfl
@[simp] theorem withImage_withFlags (k : FlagWrite) :
    (s.withImage im).withFlags k = (s.withFlags k).withImage im := rfl
@[simp] theorem withImage_advance (len : Nat) :
    (s.withImage im).advance len = (s.advance len).withImage im := rfl

end

/-- Every form of the map answers the same next state with another image, but for the image. -/
theorem execForm_withImage {g : Form} (hu : ∀ op, g ≠ .undefined op) (he : g ≠ .escape) (s : State)
    (im : List Byte) :
    ∃ t, execForm g s = .next t ∧ execForm g (s.withImage im) = .next (t.withImage im) := by
  cases g with
  | undefined op => exact absurd rfl (hu op)
  | escape => exact absurd rfl he
  | jrIf k d => exact ⟨_, jumpRelIf_eq k d s, jumpRelIf_eq k d _⟩
  | jpIf k nn => exact ⟨_, jumpAbsIf_eq k nn s, jumpAbsIf_eq k nn _⟩
  | callIf k nn =>
    refine ⟨_, callAbsIf_eq k nn s, (callAbsIf_eq k nn _).trans ?_⟩
    rw [withImage_cond]
    cases s.cond k <;> rfl
  | retIf k =>
    refine ⟨_, returnIf_eq k s, (returnIf_eq k _).trans ?_⟩
    rw [withImage_cond]
    cases s.cond k <;> rfl
  | nop | jr | jp | jpHL | halt | stop | di | ei | ldHLImm | stAAbs | ldAAbs | stAHigh | ldAHigh | stAHighC
  | ldAHighC | ldSPHL | stSPAbs | stAStep | ldAStep | daa | cpl | scf | ccf | call | ret | reti | rst
  | addSP | ldHLSP | rotA => exact ⟨_, rfl, rfl⟩
  | ldReg => exact ⟨_, rfl, by simp [execForm, loadReg]⟩
  | ldFromHL => exact ⟨_, rfl, by simp [execForm, loadFromHL]⟩
  | ldToHL => exact ⟨_, rfl, by simp [execForm, storeToHL]⟩
  | ldImm => exact ⟨_, rfl, by simp [execForm, loadImm]⟩
  | ldPairImm => exact ⟨_, rfl, by simp [execForm, loadPairImm]⟩
  | stAPtr => exact ⟨_, rfl, by simp [execForm, storeA]⟩
  | ldAPtr => exact ⟨_, rfl, by simp [execForm, loadA]⟩
  | inc8 => exact ⟨_, rfl, by simp [execForm, incLoc]⟩
  | dec8 => exact ⟨_, rfl, by simp [execForm, decLoc]⟩
  | inc16 => exact ⟨_, rfl, by simp [execForm, incPair]⟩
  | dec16 => exact ⟨_, rfl, by simp [execForm, decPair]⟩
  | alu => exact ⟨_, rfl, by simp [execForm, aluOp]⟩
  | rot => exact ⟨_, rfl, by simp [execForm, rotateLoc]⟩
  | bit => exact ⟨_, rfl, by simp [execForm, testBit]⟩
  | res => exact ⟨_, rfl, by simp [execForm, resetBit]⟩
  | set => exact ⟨_, rfl, by simp [execForm, setBit]⟩
  | push => exact ⟨_, rfl, by simp [execForm, pushPair]⟩
  | pop => exact ⟨_, rfl, by simp [execForm, popPair, State.pop16]⟩
  | addHL => exact ⟨_, rfl, by simp [execForm, addPairToHL]⟩

/-- Settles O22: a fetch reads `pc`, the image, the latches and the parameters only; an instruction of the
map commutes with a change of the image. -/
theorem codeAndDataAreSeparate : Obligations.CodeAndDataAreSeparate := by
  refine ⟨fun _ _ => rfl, fun i s im hop => ?_⟩
  obtain ⟨hu, he⟩ := form_of_isOperation hop
  obtain ⟨t, ht, him⟩ := execForm_withImage hu he s im
  exact ⟨t, (exec_eq_execForm i s).trans ht, (exec_eq_execForm i _).trans him⟩

end Sys2Proof.Machine

namespace Sys2Proof.Machine

/-! ### Repeated pushes and pops (R214) -/

/-- `k` bytes above the stack pointer. -/
def State.stackAddr (s : State) (k : Nat) : Word := s.sp + BitVec.ofNat 16 k

theorem stackAddr_push16 (s : State) (v : Word) (k : Nat) :
    (s.push16 v).stackAddr (k + 2) = s.stackAddr k := by
  have hsp : s.sp - 1 - 1 + BitVec.ofNat 16 2 = s.sp := by bv_omega
  rw [State.stackAddr, push16_sp, BitVec.ofNat_add, BitVec.add_comm (BitVec.ofNat 16 k),
    ← BitVec.add_assoc, hsp, State.stackAddr]

/-- A push writes the two bytes below `sp`, which are its own bytes 0 and 1 and no other below 65536. -/
theorem readMem_push16_stackAddr (s : State) (v : Word) {k : Nat} (hk : k + 2 < 65536) :
    (s.push16 v).readMem (s.stackAddr k) = s.readMem (s.stackAddr k) := by
  have hlo : s.stackAddr k ≠ s.sp - 1 - 1 := by
    unfold State.stackAddr
    bv_omega
  have hhi : s.stackAddr k ≠ s.sp - 1 := by
    unfold State.stackAddr
    bv_omega
  rw [readMem_push16, if_neg hlo, if_neg hhi]

theorem stackAddr_pushAll (vs : List Word) (s : State) (k : Nat) :
    (pushAll vs s).stackAddr (k + 2 * vs.length) = s.stackAddr k := by
  induction vs generalizing s k with
  | nil => rfl
  | cons v vs ih =>
    calc (pushAll vs (s.push16 v)).stackAddr (k + 2 * (vs.length + 1))
        = (pushAll vs (s.push16 v)).stackAddr (k + 2 + 2 * vs.length) := by
          congr 1
          omega
      _ = (s.push16 v).stackAddr (k + 2) := ih _ _
      _ = s.stackAddr k := stackAddr_push16 s v k

/-- Pushes keep every byte that the pushed region does not reach around to. -/
theorem readMem_pushAll (vs : List Word) (s : State) {k : Nat} (hk : k + 2 * vs.length < 65536) :
    (pushAll vs s).readMem (s.stackAddr k) = s.readMem (s.stackAddr k) := by
  induction vs generalizing s k with
  | nil => rfl
  | cons v vs ih =>
    rw [List.length_cons] at hk
    calc (pushAll vs (s.push16 v)).readMem (s.stackAddr k)
        = (pushAll vs (s.push16 v)).readMem ((s.push16 v).stackAddr (k + 2)) := by
          rw [stackAddr_push16]
      _ = (s.push16 v).readMem ((s.push16 v).stackAddr (k + 2)) := ih _ (by omega)
      _ = (s.push16 v).readMem (s.stackAddr k) := by rw [stackAddr_push16]
      _ = s.readMem (s.stackAddr k) := readMem_push16_stackAddr s v (by omega)

theorem top16_eq_stackAddr (s : State) :
    s.top16 = mkWord (s.readMem (s.stackAddr 1)) (s.readMem (s.stackAddr 0)) := by
  simp [State.top16, State.stackAddr]

/-- A pop leaves memory, so what `n` pops leave is a step of `sp`. -/
theorem popAll_state (n : Nat) (s : State) :
    (popAll n s).2 = { s with sp := s.stackAddr (2 * n) } := by
  induction n generalizing s with
  | zero => simp [popAll, State.stackAddr]
  | succ n ih =>
    have hsp : s.drop16.stackAddr (2 * n) = s.stackAddr (2 * (n + 1)) := by
      simp only [State.stackAddr, drop16_sp]
      bv_omega
    calc (popAll n s.drop16).2
        = { s.drop16 with sp := s.drop16.stackAddr (2 * n) } := ih s.drop16
      _ = _ := by rw [hsp]; rfl

/-- One more pop is the last one. -/
theorem popAll_succ (n : Nat) (s : State) :
    (popAll (n + 1) s).1 = (popAll n s).1 ++ [(popAll n s).2.top16] := by
  induction n generalizing s with
  | zero => rfl
  | succ n ih => exact congrArg (s.top16 :: ·) (ih s.drop16)

/-- What the pops of as many words leave: the stack pointer back, and memory as pushed. -/
theorem popAll_pushAll_state (vs : List Word) (s : State) :
    (popAll vs.length (pushAll vs s)).2 = { pushAll vs s with sp := s.sp } := by
  have hsp : (pushAll vs s).stackAddr (2 * vs.length) = s.sp := by
    have h := stackAddr_pushAll vs s 0
    rw [Nat.zero_add] at h
    rw [h, State.stackAddr, BitVec.add_zero]
  rw [popAll_state, hsp]

/-- The bytes of one push under `n` more are still there while the region does not overlap itself. -/
theorem top16_under_pushAll (vs : List Word) (s : State) (h : 2 * vs.length + 1 < 65536) :
    State.top16 { pushAll vs s with sp := s.sp } = s.top16 := by
  rw [top16_eq_stackAddr s, ← readMem_pushAll vs s (by omega), ← readMem_pushAll vs s (k := 0) (by omega)]
  exact top16_eq_stackAddr _

theorem popAll_pushAll_values (vs : List Word) (s : State) (h : 2 * vs.length ≤ 65536) :
    (popAll vs.length (pushAll vs s)).1 = vs.reverse := by
  induction vs generalizing s with
  | nil => rfl
  | cons v vs ih =>
    rw [List.length_cons] at h
    calc (popAll (vs.length + 1) (pushAll vs (s.push16 v))).1
        = (popAll vs.length (pushAll vs (s.push16 v))).1 ++
            [(popAll vs.length (pushAll vs (s.push16 v))).2.top16] := popAll_succ _ _
      _ = vs.reverse ++ [(s.push16 v).top16] := by
          rw [ih _ (by omega), popAll_pushAll_state, top16_under_pushAll vs _ (by omega)]
      _ = (v :: vs).reverse := by rw [top16_push16, List.reverse_cons]

/-- Settles O28: pops leave memory, and each pushed word is untouched by the pushes after it. -/
theorem stackRoundTrip : Obligations.StackRoundTrip := by
  refine ⟨fun vs s => ⟨by rw [popAll_pushAll_state], popAll_pushAll_values vs s⟩, fun s q => ?_⟩
  rw [rp2_setRP2, top16_push16]
  by_cases hq : q = .af
  · subst hq
    rfl
  · rw [if_neg hq, if_neg hq]

end Sys2Proof.Machine
